-- ==== Sys2Proof/Word.lean ====
section
/-! DEFINITION. The word types of the machine and nothing else: their arithmetic is BitVec's (spec 00_scope R10: unsigned,
modulo two to the width). -/

namespace Sys2Proof

/-- A 64-bit value: a general register, the pc, a virtual address (10_state R20, R26; 20_memory R131). -/
abbrev Word := BitVec 64

/-- A 32-bit value: an instruction word, or a CP0 register the source sizes "32 bits" (30_encoding R170; 10_state R30). -/
abbrev Word32 := BitVec 32

/-- A byte of memory (20_memory R132). -/
abbrev Byte := BitVec 8

/-- A 5-bit register field: a general register's number, or a CP0 register's (30_encoding R173). -/
abbrev Reg := BitVec 5

/-- A physical address: 32 bits (20_memory R132). -/
abbrev PAddr := BitVec 32

end Sys2Proof
end

