-- ==== Sys2Proof/Config.lean ====
section
/-! DEFINITION. The free values of the machine: what spec 00_scope R8 leaves open as an input or a draw. Each is an opaque
constant without a body, applied to the model's own time (State.time, the t of R8's ExtIP(t)), so that nothing can be proved of
its value. Parameters whose value the spec suggests stand in Machine/Params.lean. -/

namespace Sys2Proof

/-- How Random is read (00_scope R8, parameter RandomMode; 10_state R37, R39; log 8). -/
inductive RandomMode where
  /-- every use of Random is a draw from Wired .. 31 (10_state R39), the mode the spec recommends -/
  | draw
  /-- every use of Random is the counter of 10_state R37 -/
  | exact
  deriving DecidableEq, Repr, Inhabited

/-- RandomMode: open in the spec (D4), so the model fixes neither. Log 8. -/
opaque Config.randomMode : RandomMode

/-- ExtIP(t): the level of the external interrupt lines ip2 to ip6 at step t (60_exceptions R308, D24). Log 6. -/
opaque Config.extIP : Nat → BitVec 5

/-- TickSchedule: how many clock ticks fall after step t (10_state R49, D6). Log 7. -/
opaque Config.tickSchedule : Nat → Nat

/-- The number a draw of Random is taken from, brought into the range of 10_state R39 where it is used. Log 9. -/
opaque Config.randomDraw : Nat → Nat

/-- ReservedCP0Read: what reading CP0 register 7, 21 to 25 or 31 returns (10_state R34, D3). Log 10. -/
opaque Config.reservedCp0Read : Nat → Word

/-- The upper 32 bits DMFC0 reads from a register sized "32 bits" (10_state R31, D23). Log 11. -/
opaque Config.cp0UpperDraw : Nat → Word32

/-- Cause.ce after an exception other than Coprocessor Unusable (60_exceptions R317, D31). Log 12. -/
opaque Config.ceDraw : Nat → BitVec 2

/-- The 32-bit result of ADDU or ADDIU on an operand that is no canonical 32-bit value (42_integer R241). DESIGN CHOICE, safe: the
spec's own model refuses; here the instruction runs and its result is free. Log 13. -/
opaque Config.nonCanonicalSum : Nat → Word32

/-- Fairness of the tick schedule, the only promise 10_state R49 makes of it: ticks keep coming. A premise for a claim that
needs time to pass; the model assumes it nowhere. -/
def Config.FairTicks : Prop := ∀ n, ∃ m, n ≤ m ∧ 0 < Config.tickSchedule m

end Sys2Proof
end

