-- ==== Sys2Proof/Syntax.lean ====
section
/-! DEFINITION. The instructions: one constructor for each of the 42 rows of spec/opcode_table.json, with the operand fields of
its encoding at their exact widths (30_encoding R173, R177), destination first as in 30_encoding R188. -/

namespace Sys2Proof

/-- The instruction set of the spec (00_scope R5). -/
inductive Instr where
  -- 40_cp0_instructions R201 to R206 (rt a general register, rd a CP0 register number)
  | mfc0 (rt rd : Reg)
  | dmfc0 (rt rd : Reg)
  | mtc0 (rt rd : Reg)
  | dmtc0 (rt rd : Reg)
  | tlbwr
  | eret
  -- 41_control_transfer R222 to R231
  | j (target : BitVec 26)
  | jal (target : BitVec 26)
  | jr (rs : Reg)
  | jalr (rd rs : Reg)
  | beq (rs rt : Reg) (imm : BitVec 16)
  | bne (rs rt : Reg) (imm : BitVec 16)
  | bltzal (rs : Reg) (imm : BitVec 16)
  | bgezal (rs : Reg) (imm : BitVec 16)
  | bltzall (rs : Reg) (imm : BitVec 16)
  | bgezall (rs : Reg) (imm : BitVec 16)
  -- 42_integer R242 to R251
  | sll (rd rt : Reg) (sa : BitVec 5)
  | addu (rd rs rt : Reg)
  | daddu (rd rs rt : Reg)
  | and (rd rs rt : Reg)
  | or (rd rs rt : Reg)
  | addiu (rt rs : Reg) (imm : BitVec 16)
  | daddiu (rt rs : Reg) (imm : BitVec 16)
  | andi (rt rs : Reg) (imm : BitVec 16)
  | ori (rt rs : Reg) (imm : BitVec 16)
  | lui (rt : Reg) (imm : BitVec 16)
  -- 43_load_store R262 to R272
  | lb (rt base : Reg) (offset : BitVec 16)
  | lbu (rt base : Reg) (offset : BitVec 16)
  | lh (rt base : Reg) (offset : BitVec 16)
  | lhu (rt base : Reg) (offset : BitVec 16)
  | lw (rt base : Reg) (offset : BitVec 16)
  | lwu (rt base : Reg) (offset : BitVec 16)
  | ld (rt base : Reg) (offset : BitVec 16)
  | sb (rt base : Reg) (offset : BitVec 16)
  | sh (rt base : Reg) (offset : BitVec 16)
  | sw (rt base : Reg) (offset : BitVec 16)
  | sd (rt base : Reg) (offset : BitVec 16)
  -- 44_cp1_class R282 to R286: classes of words, not decoded further
  | cop1 (cofun : BitVec 26)
  | lwc1 (ft base : Reg) (offset : BitVec 16)
  | ldc1 (ft base : Reg) (offset : BitVec 16)
  | swc1 (ft base : Reg) (offset : BitVec 16)
  | sdc1 (ft base : Reg) (offset : BitVec 16)
  deriving DecidableEq, Repr

end Sys2Proof
end

