-- ==== Sys2Proof/WellFormed.lean ====
section
/-! DEFINITION. Which instructions are well formed. The operand fields of Instr have the exact widths of 30_encoding R173, so a
term that does not fit its encoding cannot be built; what is left to check is the one restriction the spec puts on operands, the
re-execution restriction of 93_implementation_defined U9, which does not make a form invalid. -/

namespace Sys2Proof

/-- Every instruction whose fields have their widths is an instruction of the table (10_state R25: a register field may name any
of the 32 registers; 30_encoding R177: the operand fields are unconstrained). One arm a constructor, so that a new one must say
what it needs. -/
def Instr.wellFormed : Instr → Bool
  | .mfc0 _ _ | .dmfc0 _ _ | .mtc0 _ _ | .dmtc0 _ _ | .tlbwr | .eret => true
  | .j _ | .jal _ | .jr _ | .jalr _ _ => true
  | .beq _ _ _ | .bne _ _ _ | .bltzal _ _ | .bgezal _ _ | .bltzall _ _ | .bgezall _ _ => true
  | .sll _ _ _ | .addu _ _ _ | .daddu _ _ _ | .and _ _ _ | .or _ _ _ => true
  | .addiu _ _ _ | .daddiu _ _ _ | .andi _ _ _ | .ori _ _ _ | .lui _ _ => true
  | .lb _ _ _ | .lbu _ _ _ | .lh _ _ _ | .lhu _ _ _ | .lw _ _ _ | .lwu _ _ _ | .ld _ _ _ => true
  | .sb _ _ _ | .sh _ _ _ | .sw _ _ _ | .sd _ _ _ => true
  | .cop1 _ | .lwc1 _ _ _ | .ldc1 _ _ _ | .swc1 _ _ _ | .sdc1 _ _ _ => true

/-- The architecture's restriction (41_control_transfer R225, R228 to R231; 70_reset R366; U9): a link instruction must not
overwrite the register it reads, because it could not be executed again after an exception in its delay slot. Such a form still
decodes and runs by its rule; a claim about handlers that return to the branch may take this check as a premise. -/
def Instr.reexecutable : Instr → Bool
  | .jalr rd rs => rd != rs
  | .bltzal rs _ | .bgezal rs _ | .bltzall rs _ | .bgezall rs _ => rs != 31
  | _ => true

end Sys2Proof
end

