-- ==== Sys2Proof/Decode.lean ====
section
/-! DEFINITION. The decoder, by match and mask as 30_encoding R177 says: one row for each row of spec/opcode_table.json. After
it the encoder, written from the formats of R171 and R172. -/

namespace Sys2Proof

/-- Why a word or a list of bytes is no instruction of the spec. -/
inductive Reject where
  /-- fewer than the four bytes of an instruction (30_encoding R170); raised by decodeBytes only; safe -/
  | truncated
  /-- the word selects no row of the table (30_encoding R183); raised by decode; safe: the machine stops -/
  | unmodelledEncoding (w : Word32)
  deriving DecidableEq, Repr

-- The fields of a word (30_encoding R173).

/-- Field rs, bits 25:21 (also `base`). -/
def fieldRs (w : Word32) : Reg := w.extractLsb' 21 5
/-- Field rt, bits 20:16 (also `ft`). -/
def fieldRt (w : Word32) : Reg := w.extractLsb' 16 5
/-- Field rd, bits 15:11. -/
def fieldRd (w : Word32) : Reg := w.extractLsb' 11 5
/-- Field sa, bits 10:6. -/
def fieldSa (w : Word32) : BitVec 5 := w.extractLsb' 6 5
/-- Field imm, bits 15:0 (also `offset`). -/
def fieldImm (w : Word32) : BitVec 16 := w.extractLsb' 0 16
/-- Field target, bits 25:0 (also `cofun`). -/
def fieldTarget (w : Word32) : BitVec 26 := w.extractLsb' 0 26

/-- One row of the opcode table: a word w selects it if `w &&& mask = pattern` (30_encoding R177). -/
structure Row where
  mnemonic : String
  pattern : Word32
  mask : Word32
  build : Word32 → Instr

/-- The word selects the row. -/
def Row.selects (r : Row) (w : Word32) : Bool := w &&& r.mask == r.pattern

/-- 30_encoding R181, under COP0. -/
def cp0Rows : List Row :=
  [ ⟨"MFC0", 0x40000000, 0xFFE007FF, fun w => .mfc0 (fieldRt w) (fieldRd w)⟩,
    ⟨"DMFC0", 0x40200000, 0xFFE007FF, fun w => .dmfc0 (fieldRt w) (fieldRd w)⟩,
    ⟨"MTC0", 0x40800000, 0xFFE007FF, fun w => .mtc0 (fieldRt w) (fieldRd w)⟩,
    ⟨"DMTC0", 0x40A00000, 0xFFE007FF, fun w => .dmtc0 (fieldRt w) (fieldRd w)⟩,
    ⟨"TLBWR", 0x42000006, 0xFFFFFFFF, fun _ => .tlbwr⟩,
    ⟨"ERET", 0x42000018, 0xFFFFFFFF, fun _ => .eret⟩ ]

/-- 30_encoding R178 to R180, the control transfers. -/
def controlRows : List Row :=
  [ ⟨"J", 0x08000000, 0xFC000000, fun w => .j (fieldTarget w)⟩,
    ⟨"JAL", 0x0C000000, 0xFC000000, fun w => .jal (fieldTarget w)⟩,
    ⟨"JR", 0x00000008, 0xFC1FFFFF, fun w => .jr (fieldRs w)⟩,
    ⟨"JALR", 0x00000009, 0xFC1F07FF, fun w => .jalr (fieldRd w) (fieldRs w)⟩,
    ⟨"BEQ", 0x10000000, 0xFC000000, fun w => .beq (fieldRs w) (fieldRt w) (fieldImm w)⟩,
    ⟨"BNE", 0x14000000, 0xFC000000, fun w => .bne (fieldRs w) (fieldRt w) (fieldImm w)⟩,
    ⟨"BLTZAL", 0x04100000, 0xFC1F0000, fun w => .bltzal (fieldRs w) (fieldImm w)⟩,
    ⟨"BGEZAL", 0x04110000, 0xFC1F0000, fun w => .bgezal (fieldRs w) (fieldImm w)⟩,
    ⟨"BLTZALL", 0x04120000, 0xFC1F0000, fun w => .bltzall (fieldRs w) (fieldImm w)⟩,
    ⟨"BGEZALL", 0x04130000, 0xFC1F0000, fun w => .bgezall (fieldRs w) (fieldImm w)⟩ ]

/-- 30_encoding R178, R179, the integer instructions. -/
def integerRows : List Row :=
  [ ⟨"SLL", 0x00000000, 0xFFE0003F, fun w => .sll (fieldRd w) (fieldRt w) (fieldSa w)⟩,
    ⟨"ADDU", 0x00000021, 0xFC0007FF, fun w => .addu (fieldRd w) (fieldRs w) (fieldRt w)⟩,
    ⟨"DADDU", 0x0000002D, 0xFC0007FF, fun w => .daddu (fieldRd w) (fieldRs w) (fieldRt w)⟩,
    ⟨"AND", 0x00000024, 0xFC0007FF, fun w => .and (fieldRd w) (fieldRs w) (fieldRt w)⟩,
    ⟨"OR", 0x00000025, 0xFC0007FF, fun w => .or (fieldRd w) (fieldRs w) (fieldRt w)⟩,
    ⟨"ADDIU", 0x24000000, 0xFC000000, fun w => .addiu (fieldRt w) (fieldRs w) (fieldImm w)⟩,
    ⟨"DADDIU", 0x64000000, 0xFC000000, fun w => .daddiu (fieldRt w) (fieldRs w) (fieldImm w)⟩,
    ⟨"ANDI", 0x30000000, 0xFC000000, fun w => .andi (fieldRt w) (fieldRs w) (fieldImm w)⟩,
    ⟨"ORI", 0x34000000, 0xFC000000, fun w => .ori (fieldRt w) (fieldRs w) (fieldImm w)⟩,
    ⟨"LUI", 0x3C000000, 0xFFE00000, fun w => .lui (fieldRt w) (fieldImm w)⟩ ]

/-- 30_encoding R178, the loads. -/
def loadRows : List Row :=
  [ ⟨"LB", 0x80000000, 0xFC000000, fun w => .lb (fieldRt w) (fieldRs w) (fieldImm w)⟩,
    ⟨"LBU", 0x90000000, 0xFC000000, fun w => .lbu (fieldRt w) (fieldRs w) (fieldImm w)⟩,
    ⟨"LH", 0x84000000, 0xFC000000, fun w => .lh (fieldRt w) (fieldRs w) (fieldImm w)⟩,
    ⟨"LHU", 0x94000000, 0xFC000000, fun w => .lhu (fieldRt w) (fieldRs w) (fieldImm w)⟩,
    ⟨"LW", 0x8C000000, 0xFC000000, fun w => .lw (fieldRt w) (fieldRs w) (fieldImm w)⟩,
    ⟨"LWU", 0x9C000000, 0xFC000000, fun w => .lwu (fieldRt w) (fieldRs w) (fieldImm w)⟩,
    ⟨"LD", 0xDC000000, 0xFC000000, fun w => .ld (fieldRt w) (fieldRs w) (fieldImm w)⟩ ]

/-- 30_encoding R178, the stores. -/
def storeRows : List Row :=
  [ ⟨"SB", 0xA0000000, 0xFC000000, fun w => .sb (fieldRt w) (fieldRs w) (fieldImm w)⟩,
    ⟨"SH", 0xA4000000, 0xFC000000, fun w => .sh (fieldRt w) (fieldRs w) (fieldImm w)⟩,
    ⟨"SW", 0xAC000000, 0xFC000000, fun w => .sw (fieldRt w) (fieldRs w) (fieldImm w)⟩,
    ⟨"SD", 0xFC000000, 0xFC000000, fun w => .sd (fieldRt w) (fieldRs w) (fieldImm w)⟩ ]

/-- 30_encoding R178, R182, the CP1 class. -/
def cp1Rows : List Row :=
  [ ⟨"COP1", 0x44000000, 0xFC000000, fun w => .cop1 (fieldTarget w)⟩,
    ⟨"LWC1", 0xC4000000, 0xFC000000, fun w => .lwc1 (fieldRt w) (fieldRs w) (fieldImm w)⟩,
    ⟨"LDC1", 0xD4000000, 0xFC000000, fun w => .ldc1 (fieldRt w) (fieldRs w) (fieldImm w)⟩,
    ⟨"SWC1", 0xE4000000, 0xFC000000, fun w => .swc1 (fieldRt w) (fieldRs w) (fieldImm w)⟩,
    ⟨"SDC1", 0xF4000000, 0xFC000000, fun w => .sdc1 (fieldRt w) (fieldRs w) (fieldImm w)⟩ ]

/-- The opcode table, in the order of spec/opcode_table.json. -/
def opcodeRows : List Row :=
  cp0Rows ++ controlRows ++ integerRows ++ loadRows ++ storeRows ++ cp1Rows

/-- 30_encoding R177, R183: the one row the word selects gives the instruction; a word that selects none is rejected by name. -/
def decode (w : Word32) : Except Reject Instr :=
  match opcodeRows.find? (fun r => r.selects w) with
  | some r => .ok (r.build w)
  | none => .error (.unmodelledEncoding w)

/-- The four bytes of an instruction word as memory holds them, the lowest address first: big-endian (30_encoding R170,
20_memory R136). -/
def wordBytes (w : Word32) : List Byte :=
  [w.extractLsb' 24 8, w.extractLsb' 16 8, w.extractLsb' 8 8, w.extractLsb' 0 8]

/-- Decoding a list of bytes: the instruction and the bytes after it. -/
def decodeBytes : List Byte → Except Reject (Instr × List Byte)
  | b0 :: b1 :: b2 :: b3 :: rest =>
    match decode (b0 ++ b1 ++ b2 ++ b3) with
    | .ok i => .ok (i, rest)
    | .error e => .error e
  | _ => .error .truncated

/-- The instruction the decoder reads from a word of spec/opcode_table.json (one 32-bit word, its bit 0 the least significant;
30_encoding R170), laid out in memory order. -/
def decodeTableWord (nbits w : Nat) : Option Instr :=
  match decodeBytes (wordBytes (BitVec.ofNat 32 (w % 2 ^ nbits))) with
  | .ok (i, _) => some i
  | .error _ => none

-- The encoder (30_encoding R171 to R173, R178 to R182).

/-- I-type: op rs rt imm. -/
def encodeI (op : BitVec 6) (rs rt : Reg) (imm : BitVec 16) : Word32 := op ++ rs ++ rt ++ imm
/-- J-type: op target (also the COP1 class word). -/
def encodeJ (op : BitVec 6) (target : BitVec 26) : Word32 := op ++ target
/-- R-type under SPECIAL: 0 rs rt rd sa funct. -/
def encodeR (rs rt rd : Reg) (sa : BitVec 5) (funct : BitVec 6) : Word32 := 0#6 ++ rs ++ rt ++ rd ++ sa ++ funct
/-- CP0 move: 010000 sub rt rd 00000000000. -/
def encodeCp0Move (sub : BitVec 5) (rt rd : Reg) : Word32 := 0x10#6 ++ sub ++ rt ++ rd ++ 0#11
/-- CP0 function: 010000 1 0...0 funct. -/
def encodeCp0Function (funct : BitVec 6) : Word32 := 0x10#6 ++ 1#1 ++ 0#19 ++ funct

/-- The word of an instruction. -/
def encode : Instr → Word32
  | .mfc0 rt rd => encodeCp0Move 0x00 rt rd
  | .dmfc0 rt rd => encodeCp0Move 0x01 rt rd
  | .mtc0 rt rd => encodeCp0Move 0x04 rt rd
  | .dmtc0 rt rd => encodeCp0Move 0x05 rt rd
  | .tlbwr => encodeCp0Function 0x06
  | .eret => encodeCp0Function 0x18
  | .j target => encodeJ 0x02 target
  | .jal target => encodeJ 0x03 target
  | .jr rs => encodeR rs 0 0 0 0x08
  | .jalr rd rs => encodeR rs 0 rd 0 0x09
  | .beq rs rt imm => encodeI 0x04 rs rt imm
  | .bne rs rt imm => encodeI 0x05 rs rt imm
  | .bltzal rs imm => encodeI 0x01 rs 0x10 imm
  | .bgezal rs imm => encodeI 0x01 rs 0x11 imm
  | .bltzall rs imm => encodeI 0x01 rs 0x12 imm
  | .bgezall rs imm => encodeI 0x01 rs 0x13 imm
  | .sll rd rt sa => encodeR 0 rt rd sa 0x00
  | .addu rd rs rt => encodeR rs rt rd 0 0x21
  | .daddu rd rs rt => encodeR rs rt rd 0 0x2D
  | .and rd rs rt => encodeR rs rt rd 0 0x24
  | .or rd rs rt => encodeR rs rt rd 0 0x25
  | .addiu rt rs imm => encodeI 0x09 rs rt imm
  | .daddiu rt rs imm => encodeI 0x19 rs rt imm
  | .andi rt rs imm => encodeI 0x0C rs rt imm
  | .ori rt rs imm => encodeI 0x0D rs rt imm
  | .lui rt imm => encodeI 0x0F 0 rt imm
  | .lb rt base offset => encodeI 0x20 base rt offset
  | .lbu rt base offset => encodeI 0x24 base rt offset
  | .lh rt base offset => encodeI 0x21 base rt offset
  | .lhu rt base offset => encodeI 0x25 base rt offset
  | .lw rt base offset => encodeI 0x23 base rt offset
  | .lwu rt base offset => encodeI 0x27 base rt offset
  | .ld rt base offset => encodeI 0x37 base rt offset
  | .sb rt base offset => encodeI 0x28 base rt offset
  | .sh rt base offset => encodeI 0x29 base rt offset
  | .sw rt base offset => encodeI 0x2B base rt offset
  | .sd rt base offset => encodeI 0x3F base rt offset
  | .cop1 cofun => encodeJ 0x11 cofun
  | .lwc1 ft base offset => encodeI 0x31 base ft offset
  | .ldc1 ft base offset => encodeI 0x35 base ft offset
  | .swc1 ft base offset => encodeI 0x39 base ft offset
  | .sdc1 ft base offset => encodeI 0x3D base ft offset

/-- The bytes of an instruction in memory order. -/
def encodeBytes (i : Instr) : List Byte := wordBytes (encode i)

end Sys2Proof
end

