-- ==== Sys2Proof/Machine/Bits.lean ====
section
/-! DEFINITION. Bit-field helpers (spec 00_scope R10): slices, sign and zero extension, a field written into a word, a write
through a mask. -/

namespace Sys2Proof.Machine

/-- trunc_32(v), that is v[31:0]. -/
def low32 (v : Word) : Word32 := v.setWidth 32

/-- sext_64 of a 32-bit value. -/
def sext64 (v : Word32) : Word := v.signExtend 64

/-- A canonical 32-bit value (00_scope R14): `v == sext_64(v[31:0])`. -/
def isCanonical32 (v : Word) : Bool := v == sext64 (low32 v)

/-- v[lo+len-1 : lo] replaced by x, every other bit kept. -/
def insertField {n len : Nat} (v : BitVec n) (lo : Nat) (x : BitVec len) : BitVec n :=
  (v &&& ~~~((BitVec.allOnes len).setWidth n <<< lo)) ||| (x.setWidth n <<< lo)

/-- One bit as a field of width 1. -/
def bit1 (b : Bool) : BitVec 1 := BitVec.ofBool b

/-- A write through a mask (10_state R32): the masked bits of `new`, the other bits of `old`. -/
def maskedWrite {n : Nat} (old new mask : BitVec n) : BitVec n := (old &&& ~~~mask) ||| (new &&& mask)

end Sys2Proof.Machine
end

