-- ==== Sys2Proof/Machine/Flags.lean ====
section
/-! DEFINITION. The machine has no flags register and no instruction sets a flag (spec 10_state R29). What stands in a flag's
place: the conditions the branches test, and the fields of Status and Cause (10_state R56, R74) with what the step computes from
them, the effective mode and the interrupt condition (60_exceptions R306, R324). -/

namespace Sys2Proof.Machine

/-- The signed test of the REGIMM branches: bit 63 (41_control_transfer R228 to R231). -/
def isNegative (v : Word) : Bool := v.getLsbD 63

-- Status (10_state R56 to R73).

/-- Status.ie, bit 0 (R57). -/
def statusIe (st : Word32) : Bool := st.getLsbD 0
/-- Status.exl, bit 1 (R58). -/
def statusExl (st : Word32) : Bool := st.getLsbD 1
/-- Status.erl, bit 2 (R59). -/
def statusErl (st : Word32) : Bool := st.getLsbD 2
/-- Status.ksu, bits 4:3 (R60). -/
def statusKsu (st : Word32) : BitVec 2 := st.extractLsb' 3 2
/-- Status.im, bits 15:8 (R64). -/
def statusIm (st : Word32) : BitVec 8 := st.extractLsb' 8 8
/-- Status.ds bit 22, BEV (R65). -/
def statusBev (st : Word32) : Bool := st.getLsbD 22
/-- Status.re, bit 25 (R66). -/
def statusRe (st : Word32) : Bool := st.getLsbD 25
/-- Status.cu1, bit 29 (R70). -/
def statusCu1 (st : Word32) : Bool := st.getLsbD 29

/-- Status with exl set or cleared (R58). -/
def withExl (st : Word32) (b : Bool) : Word32 := insertField st 1 (bit1 b)
/-- Status with erl set or cleared (R59). -/
def withErl (st : Word32) (b : Bool) : Word32 := insertField st 2 (bit1 b)

-- Cause (10_state R74 to R80).

/-- Cause.exccode, bits 6:2 (R76). -/
def causeExcCode (c : Word32) : BitVec 5 := c.extractLsb' 2 5
/-- Cause.ip, bits 15:8 (R77). -/
def causeIp (c : Word32) : BitVec 8 := c.extractLsb' 8 8
/-- Cause.ip7, bit 15: the timer's bit (R77). -/
def causeIp7 (c : Word32) : Bool := c.getLsbD 15
/-- Cause.ce, bits 29:28 (R78). -/
def causeCe (c : Word32) : BitVec 2 := c.extractLsb' 28 2
/-- Cause.bd, bit 31 (R79). -/
def causeBd (c : Word32) : Bool := c.getLsbD 31

/-- Cause with the exception code written (R76). -/
def withExcCode (c : Word32) (code : BitVec 5) : Word32 := insertField c 2 code
/-- Cause with bits 14:10 written: the external lines (60_exceptions R308). -/
def withLines (c : Word32) (lines : BitVec 5) : Word32 := insertField c 10 lines
/-- Cause with ip7 written (R53, R54). -/
def withIp7 (c : Word32) (b : Bool) : Word32 := insertField c 15 (bit1 b)
/-- Cause with ce written (R78). -/
def withCe (c : Word32) (ce : BitVec 2) : Word32 := insertField c 28 ce
/-- Cause with bd written (R79). -/
def withBd (c : Word32) (b : Bool) : Word32 := insertField c 31 (bit1 b)

/-- The execution modes; `undefined` is ksu = 0b11, to which the source gives no meaning (60_exceptions R324). -/
inductive Mode where
  | kernel
  | supervisor
  | user
  | undefined
  deriving DecidableEq, Repr

/-- EffectiveMode() (60_exceptions R324). -/
def effectiveMode (st : Word32) : Mode :=
  if statusExl st || statusErl st then .kernel
  else if statusKsu st = 0 then .kernel
  else if statusKsu st = 1 then .supervisor
  else if statusKsu st = 2 then .user
  else .undefined

/-- InterruptTaken() (60_exceptions R306). -/
def interruptTaken (st cause : Word32) : Bool :=
  statusIe st && !statusExl st && !statusErl st && (statusIm st &&& causeIp cause) != 0

end Sys2Proof.Machine
end

