-- ==== Sys2Proof/Machine/Operands.lean ====
section
/-! DEFINITION. Operand forms: immediates, addresses and targets, as values computed from the fields of an instruction
(spec 30_encoding R174 to R176; 43_load_store R260). -/

namespace Sys2Proof.Machine

/-- sext_64(imm): ADDIU, DADDIU, and the offset of every load and store (30_encoding R174). -/
def signImm (imm : BitVec 16) : Word := imm.signExtend 64

/-- zext_64(imm): ANDI and ORI (30_encoding R174). -/
def zeroImm (imm : BitVec 16) : Word := imm.setWidth 64

/-- sext_64(imm || 0x0000): LUI (30_encoding R174). -/
def upperImm (imm : BitVec 16) : Word := sext64 (imm ++ 0#16)

/-- The effective address of a load or store: base plus signed offset, modulo 2^64 (43_load_store R260). -/
def effectiveAddress (base : Word) (offset : BitVec 16) : Word := base + signImm offset

/-- The target of a branch at pc: pc + 4 + sext_64(imm || 0b00) (30_encoding R176). -/
def branchTarget (pc : Word) (imm : BitVec 16) : Word := pc + 4 + (imm ++ 0#2).signExtend 64

/-- The target of J and JAL at pc: (pc + 4)[63:28] || target || 0b00 (30_encoding R175). -/
def jumpTarget (pc : Word) (target : BitVec 26) : Word := (pc + 4).extractLsb' 28 36 ++ target ++ 0#2

/-- The return address a link instruction at pc writes: the address after the delay slot (41_control_transfer R220 item 4). -/
def linkAddress (pc : Word) : Word := pc + 8

/-- The two 32-bit sums of ADDU and ADDIU on low halves, sign-extended (42_integer R243, R247). -/
def addLow32 (a b : Word) : Word := sext64 (low32 a + low32 b)

/-- SLL: the low half shifted left, sign-extended (42_integer R242). -/
def shiftLow32 (a : Word) (sa : BitVec 5) : Word := sext64 (low32 a <<< sa.toNat)

/-- The size of a memory access (20_memory R138, R148). -/
inductive Width where
  | byte
  | half
  | word
  | dword
  deriving DecidableEq, Repr

/-- The n of MemRead and MemWrite. -/
def Width.bytes : Width → Nat
  | .byte => 1
  | .half => 2
  | .word => 4
  | .dword => 8

/-- sext_64 of an n-byte value held in the low bits (43_load_store R262, R264, R266). -/
def signExtendLoad (w : Width) (v : Word) : Word :=
  match w with
  | .byte => (v.setWidth 8).signExtend 64
  | .half => (v.setWidth 16).signExtend 64
  | .word => (v.setWidth 32).signExtend 64
  | .dword => v

/-- zext_64 of an n-byte value held in the low bits (43_load_store R263, R265, R267, R268). -/
def zeroExtendLoad (w : Width) (v : Word) : Word :=
  match w with
  | .byte => (v.setWidth 8).setWidth 64
  | .half => (v.setWidth 16).setWidth 64
  | .word => (v.setWidth 32).setWidth 64
  | .dword => v

end Sys2Proof.Machine
end

