-- ==== Sys2Proof/Machine/Params.lean ====
section
/-! DEFINITION. The parameters of spec 00_scope R8 that are not free inputs: the reset vector, the exception vectors, and the
write masks WMask(n) and fixed bits Fixed(n) of the CP0 registers, PRIdValue among them. They are one record, an argument of the
machine that the launch fixes (State.params) and no step changes. `suggestedParams` is the record of the values the spec suggests:
PRESUMED (the spec marks every one as general knowledge), log 2, 14 and 16. Below it, the model's choices for the launch: log 1,
3, 4. -/

namespace Sys2Proof.Machine

/-- One word for each CP0 register whose mask the spec leaves open (10_state R32, D9). The masks it fixes stand elsewhere: Random's 0
(R36), 29 bits of Status's (R73), Cause's (R80, D10). -/
structure Cp0Bits where
  /-- register 0, Index (R35) -/
  index : Word32
  /-- register 2, EntryLo0 (R41) -/
  entryLo0 : Word
  /-- register 3, EntryLo1 (R42) -/
  entryLo1 : Word
  /-- register 4, Context (R43) -/
  context : Word
  /-- register 5, PageMask (R44) -/
  pageMask : Word32
  /-- register 6, Wired (R45) -/
  wired : Word32
  /-- register 8, BadVAddr (R47) -/
  badVAddr : Word
  /-- register 9, Count (R51) -/
  count : Word32
  /-- register 10, EntryHi (R52) -/
  entryHi : Word
  /-- register 11, Compare (R54) -/
  compare : Word32
  /-- register 14, EPC (R81) -/
  epc : Word
  /-- register 15, PRId (R82) -/
  prId : Word32
  /-- register 16, Config (R83) -/
  config : Word32
  /-- register 17, LLAddr (R84) -/
  llAddr : Word32
  /-- register 18, WatchLo (R85) -/
  watchLo : Word32
  /-- register 19, WatchHi (R86) -/
  watchHi : Word32
  /-- register 20, XContext (R87) -/
  xContext : Word
  /-- register 26, Parity Error (R89) -/
  parityError : Word32
  /-- register 27, Cache Error (R90) -/
  cacheError : Word32
  /-- register 28, TagLo (R91) -/
  tagLo : Word32
  /-- register 29, TagHi (R92) -/
  tagHi : Word32
  /-- register 30, ErrorEPC (R93) -/
  errorEPC : Word
  deriving DecidableEq, Repr

/-- The parameters of one machine (00_scope R8). -/
structure Params where
  /-- ResetVector (70_reset R352) -/
  resetVector : Word
  /-- VectorBase(0) (60_exceptions R314) -/
  vectorBase0 : Word
  /-- VectorBase(1) (60_exceptions R314) -/
  vectorBase1 : Word
  /-- WMask(n): the bits of register n that software can write (10_state R32) -/
  wmask : Cp0Bits
  /-- Fixed(n): what the other bits of register n read (00_scope R8), where the machine itself does not load them, as it loads
  BadVAddr, Count and EPC -/
  fixed : Cp0Bits
  /-- bits 23, 21 and 19 of WMask(12), which 10_state R73 leaves open; its other bits are not used -/
  statusOpen : Word32
  deriving DecidableEq, Repr

/-- PRIdValue: what the bits of PRId that software cannot write read, Fixed(15) (10_state R82). -/
def Params.prIdValue (p : Params) : Word32 := p.fixed.prId

/-- VectorBase(bev): Status.BEV selects the base (60_exceptions R312, R314). -/
def Params.vectorBase (p : Params) (bev : Bool) : Word := if bev then p.vectorBase1 else p.vectorBase0

/-- The general exception vector, at offset 0x180 (60_exceptions R312, R314). -/
def Params.generalVector (p : Params) (bev : Bool) : Word := p.vectorBase bev + 0x180

/-- WMask(12), Status: 29 bits are 1, bits 23, 21 and 19 the parameter's (10_state R73). -/
def Params.wmaskStatus (p : Params) : Word32 := 0xFF57FFFF ||| (p.statusOpen &&& 0x00A80000)

/-- WMask(13), Cause: ip0 and ip1 (10_state R80). -/
def wmaskCause : Word32 := 0x00000300

/-- A register of which only the fixed bits Fixed(n) are set: its writable bits are 0 (10_state R101; log 1). -/
def fixedOf {w : Nat} (fixed mask : BitVec w) : BitVec w := fixed &&& ~~~mask

-- The suggested values.

/-- The suggested WMask(n), each from its register's rule; that of Config without BE, bit 15, which 20_memory R137 says the model
holds at 1 (DEDUCED, unsafe, log 15). -/
def suggestedWMask : Cp0Bits :=
  { index := 0x8000003F, entryLo0 := 0x000000003FFFFFFF, entryLo1 := 0x000000003FFFFFFF, context := 0xFFFFFFFFFF800000,
    pageMask := 0x01FFE000, wired := 0x0000003F, badVAddr := 0, count := 0xFFFFFFFF, entryHi := 0xC00000FFFFFFE0FF,
    compare := 0xFFFFFFFF, epc := 0xFFFFFFFFFFFFFFFF, prId := 0, config := 0x0F00000F, llAddr := 0xFFFFFFFF,
    watchLo := 0xFFFFFFFB, watchHi := 0x0000000F, xContext := 0xFFFFFFFE00000000, parityError := 0x000000FF,
    cacheError := 0, tagLo := 0x0FFFFFC0, tagHi := 0, errorEPC := 0xFFFFFFFFFFFFFFFF }

/-- The suggested Fixed(n): 0, but for PRId (10_state R82) and Config (R83). -/
def suggestedFixed : Cp0Bits :=
  { index := 0, entryLo0 := 0, entryLo1 := 0, context := 0, pageMask := 0, wired := 0, badVAddr := 0, count := 0,
    entryHi := 0, compare := 0, epc := 0, prId := 0x00000B22, config := 0x7006E460, llAddr := 0, watchLo := 0, watchHi := 0,
    xContext := 0, parityError := 0, cacheError := 0, tagLo := 0, tagHi := 0, errorEPC := 0 }

/-- The suggested parameters (00_scope R8); the open bits of Status's mask 0, as the vendor's layout has them (10_state R73). -/
def suggestedParams : Params :=
  { resetVector := 0xFFFFFFFFBFC00000, vectorBase0 := 0xFFFFFFFF80000000, vectorBase1 := 0xFFFFFFFFBFC00200,
    wmask := suggestedWMask, fixed := suggestedFixed, statusOpen := 0 }

-- The launch.

/-- Status after reset: erl = 1 and BEV = 1, TS = SR = rp = 0 (10_state R101); every other bit 0 (DESIGN CHOICE, unsafe, log 1). -/
def statusReset : Word32 := 0x00400004

/-- What a byte of physical memory holds that no launch and no store has written. DESIGN CHOICE, unsafe: the spec leaves the
launch bytes open (20_memory R144). Log 3. -/
def unlistedByte : Byte := 0

/-- PhysMem at reset, as (base, size): the parts of 20_memory R144's map that hold memory and no device registers. DESIGN CHOICE,
unsafe: the spec leaves PhysMem open. Log 4. -/
def physMemReset : List (Nat × Nat) := [(0x00000000, 0x03F00000), (0x10000000, 0x10000000)]

end Sys2Proof.Machine
end

