-- ==== Sys2Proof/Machine/State.lean ====
section
/-! DEFINITION. The machine's state as plain data: everything spec 10_state lists, and the reasons a step can stop. -/

namespace Sys2Proof.Machine

/-- Physical memory (20_memory R132): (address, byte) pairs, addresses strictly rising, no entry equal to `unlistedByte`; an
address that is not listed holds `unlistedByte`. -/
abbrev Memory := List Host.Cell

/-- A range of physical addresses: PhysMem and ProgramText are lists of these (00_scope R8). -/
structure Region where
  base : Nat
  size : Nat
  deriving DecidableEq, Repr

/-- A TLB entry: the four raw register images TLBWR stored (10_state R98). -/
structure TlbEntry where
  pageMask : Word32
  entryHi : Word
  entryLo0 : Word
  entryLo1 : Word
  deriving DecidableEq, Repr

/-- The CP0 registers that have storage (10_state R30, R33, R34). -/
structure Cp0 where
  /-- register 0 (R35) -/
  index : Word32
  /-- register 1 (R36, R37): the counter of exact mode -/
  random : Word32
  /-- register 2 (R41) -/
  entryLo0 : Word
  /-- register 3 (R42) -/
  entryLo1 : Word
  /-- register 4 (R43) -/
  context : Word
  /-- register 5 (R44) -/
  pageMask : Word32
  /-- register 6 (R45) -/
  wired : Word32
  /-- register 8 (R47) -/
  badVAddr : Word
  /-- register 9 (R48) -/
  count : Word32
  /-- register 10 (R52) -/
  entryHi : Word
  /-- register 11 (R53) -/
  compare : Word32
  /-- register 12 (R56) -/
  status : Word32
  /-- register 13 (R74) -/
  cause : Word32
  /-- register 14 (R81) -/
  epc : Word
  /-- register 15 (R82) -/
  prId : Word32
  /-- register 16 (R83) -/
  config : Word32
  /-- register 17 (R84) -/
  llAddr : Word32
  /-- register 18 (R85) -/
  watchLo : Word32
  /-- register 19 (R86) -/
  watchHi : Word32
  /-- register 20 (R87) -/
  xContext : Word
  /-- register 26 (R89) -/
  parityError : Word32
  /-- register 27 (R90) -/
  cacheError : Word32
  /-- register 28 (R91) -/
  tagLo : Word32
  /-- register 29 (R92) -/
  tagHi : Word32
  /-- register 30 (R93) -/
  errorEPC : Word
  deriving DecidableEq, Repr

/-- The state of the machine (10_state, its opening table). -/
structure State where
  /-- x[0..31]; read and written through State.readGpr and State.writeGpr only, which keep r0 at 0 (R20, R21) -/
  gpr : Vector Word 32
  /-- the instruction being executed (R26) -/
  pc : Word
  /-- the instruction to execute next (R27) -/
  npc : Word
  /-- the instruction at pc is in a branch delay slot (R27) -/
  inDelay : Bool
  /-- the CP0 registers (R30) -/
  cp0 : Cp0
  /-- count_half: the hidden half cycle of Count (R49) -/
  countHalf : Bool
  /-- the hidden load-linked bit, which ERET clears (R100, 40_cp0 R206); log 26 -/
  llBit : Bool
  /-- fpr[0..31], opaque (R96) -/
  fpr : Vector Word 32
  /-- tlb[0..31] (R98) -/
  tlb : Vector TlbEntry 32
  /-- Mem (20_memory R132) -/
  mem : Memory
  /-- PhysMem: which physical addresses hold memory; a parameter of the launch, changed by no step (20_memory R144, 00_scope R16) -/
  physMem : List Region
  /-- ProgramText: which physical addresses hold code; a parameter of the launch, changed by no step (20_memory R154, 00_scope R16) -/
  programText : List Region
  /-- the parameters of the machine (00_scope R8), changed by no step (R16) -/
  params : Params
  /-- the model's own step counter, the argument of every free value of Config (00_scope R8's t); log 32 -/
  time : Nat
  deriving DecidableEq, Repr

/-- Why the machine stops at an access to an address that does not exist. -/
inductive Fault where
  /-- `refuse(NoSuchMemory)` of the spec (20_memory R138 to R140, R144): an access to a physical address outside PhysMem, or a fetch
  from outside ProgramText; raised by memRead, memWrite and fetch; safe: the machine stops -/
  | noSuchMemory
  deriving DecidableEq, Repr

/-- Why the model gives a step no meaning: the closed list of 00_scope R12, and watchHit, which 60_exceptions R332 allows. -/
inductive Refusal where
  /-- an instruction of the table without a meaning: raised by no arm of this model; safe -/
  | notModelled (mnemonic : String)
  /-- the word fetched selects no row of the table (30_encoding R183); raised by the step; safe -/
  | unmodelledEncoding
  /-- the effective mode is not kernel (60_exceptions R326); raised by the step; safe -/
  | nonKernelMode
  /-- a memory access while Status.re = 1 (20_memory R137); raised by memRead and memWrite; safe -/
  | reverseEndian
  /-- a virtual address outside kseg0 and kseg1 (20_memory R143); raised by memRead and memWrite; safe -/
  | mappedAddress
  /-- a store into ProgramText (20_memory R154); raised by memWrite; safe -/
  | storeToProgramText
  /-- a CP1-class instruction with cu1 = 1 (44_cp1_class R281); raised by the CP1 class; safe -/
  | cp1NotModelled
  /-- a branch, a jump or ERET in a delay slot (41_control_transfer R221); raised by those instructions; safe -/
  | controlTransferInDelaySlot
  /-- TLBWR whose index names no TLB entry (10_state R40, 40_cp0_instructions R205); raised by TLBWR; safe; log 9 -/
  | wiredOutOfRange
  /-- a load or store that an armed watchpoint would hit (60_exceptions R332, U29); raised by the loads and stores; safe; log 18 -/
  | watchHit
  deriving DecidableEq, Repr

/-- The CP0 registers after reset on a machine with the parameters p (10_state R101; what it gives no value is 0, log 1; Config has
BE = 1). -/
def Cp0.resetWith (p : Params) : Cp0 :=
  { index := fixedOf p.fixed.index p.wmask.index, random := 31, entryLo0 := fixedOf p.fixed.entryLo0 p.wmask.entryLo0,
    entryLo1 := fixedOf p.fixed.entryLo1 p.wmask.entryLo1, context := fixedOf p.fixed.context p.wmask.context,
    pageMask := fixedOf p.fixed.pageMask p.wmask.pageMask, wired := fixedOf p.fixed.wired p.wmask.wired,
    badVAddr := fixedOf p.fixed.badVAddr p.wmask.badVAddr, count := fixedOf p.fixed.count p.wmask.count,
    entryHi := fixedOf p.fixed.entryHi p.wmask.entryHi, compare := fixedOf p.fixed.compare p.wmask.compare,
    status := statusReset, cause := 0, epc := fixedOf p.fixed.epc p.wmask.epc, prId := fixedOf p.fixed.prId p.wmask.prId,
    config := fixedOf p.fixed.config p.wmask.config ||| 0x8000, llAddr := fixedOf p.fixed.llAddr p.wmask.llAddr,
    watchLo := fixedOf p.fixed.watchLo p.wmask.watchLo, watchHi := fixedOf p.fixed.watchHi p.wmask.watchHi,
    xContext := fixedOf p.fixed.xContext p.wmask.xContext, parityError := fixedOf p.fixed.parityError p.wmask.parityError,
    cacheError := fixedOf p.fixed.cacheError p.wmask.cacheError, tagLo := fixedOf p.fixed.tagLo p.wmask.tagLo,
    tagHi := fixedOf p.fixed.tagHi p.wmask.tagHi, errorEPC := fixedOf p.fixed.errorEPC p.wmask.errorEPC }

/-- The machine with the parameters p right after reset (10_state R101, 70_reset R352, R353): no program is in it (ProgramText is
empty), log 1 to 5. -/
def State.resetWith (p : Params) : State :=
  { gpr := Vector.replicate 32 0
    pc := p.resetVector
    npc := p.resetVector + 4
    inDelay := false
    cp0 := Cp0.resetWith p
    countHalf := false
    llBit := false
    fpr := Vector.replicate 32 0
    tlb := Vector.replicate 32 ⟨0, 0, 0, 0⟩
    mem := []
    physMem := physMemReset.map (fun p => ⟨p.1, p.2⟩)
    programText := []
    params := p
    time := 0 }

/-- The machine right after reset, with the suggested parameters (log 2, 14, 16). -/
def State.reset : State := State.resetWith suggestedParams

end Sys2Proof.Machine
end

