-- ==== Sys2Proof/Machine/Ops.lean ====
section
/-! DEFINITION. The named operations over registers and memory, and taking an exception and returning from one
(spec 10_state R20 to R28; 20_memory R136 to R144, R154; 60_exceptions R312 to R320). -/

namespace Sys2Proof.Machine

-- General registers and the program counter.

/-- x[r]: r0 reads 0 in every state (10_state R21). -/
def State.readGpr (s : State) (r : Reg) : Word := if r = 0 then 0 else s.gpr[r.toNat]'(r.isLt)

/-- x[r] <- v: a write to r0 is discarded (10_state R21). -/
def State.writeGpr (s : State) (r : Reg) (v : Word) : State :=
  if r = 0 then s else { s with gpr := s.gpr.set r.toNat v r.isLt }

/-- The CP0 registers replaced. -/
def State.withCp0 (s : State) (c : Cp0) : State := { s with cp0 := c }

/-- Memory replaced. -/
def State.withMem (s : State) (m : Memory) : State := { s with mem := m }

/-- A completed instruction that is no control transfer (10_state R28). -/
def State.advance (s : State) : State := { s with pc := s.npc, npc := s.npc + 4, inDelay := false }

/-- A completed control transfer whose delay slot executes: after the slot comes `target` (10_state R28; 41_control_transfer
R220 item 3). -/
def State.branchTo (s : State) (target : Word) : State := { s with pc := s.npc, npc := target, inDelay := true }

/-- A branch-likely that is not taken skips its delay slot (10_state R28; 41_control_transfer R220 item 3). -/
def State.skipSlot (s : State) : State := { s with pc := s.npc + 4, npc := s.npc + 8, inDelay := false }

/-- Writes rd and advances: how every computation and every load completes. -/
def State.complete (s : State) (rd : Reg) (v : Word) : State := (s.writeGpr rd v).advance

-- Physical memory, one byte at a time.

/-- The byte at physical address a. -/
def Memory.read : Memory → Nat → Byte
  | [], _ => unlistedByte
  | (a', b) :: m, a => if a' = a then b else Memory.read m a

/-- The byte at physical address a written, keeping the list's canonical form: addresses rising, no entry equal to what an
unlisted address reads as. -/
def Memory.write : Memory → Nat → Byte → Memory
  | [], a, b => if b = unlistedByte then [] else [(a, b)]
  | (a', b') :: m, a, b =>
    if a' < a then (a', b') :: Memory.write m a b
    else if a' = a then (if b = unlistedByte then m else (a, b) :: m)
    else if b = unlistedByte then (a', b') :: m else (a, b) :: (a', b') :: m

/-- The canonical form of memory. -/
abbrev Memory.wf (m : Memory) : Prop :=
  m.Pairwise (fun p q => p.1 < q.1) ∧ ∀ p ∈ m, p.2 ≠ unlistedByte

/-- Mem[a] || Mem[a+1] || ... || Mem[a+n-1], zero-extended: big-endian (20_memory R136, R138). -/
def Memory.readBE (m : Memory) (a : Nat) : Nat → Word
  | 0 => 0
  | n + 1 => (Memory.readBE m a n <<< 8) ||| (m.read (a + n)).setWidth 64

/-- The low n bytes of v written from address a on, the most significant first (20_memory R136, R139). -/
def Memory.writeBE (m : Memory) (a : Nat) : Nat → Word → Memory
  | 0, _ => m
  | n + 1, v => (Memory.writeBE m a n (v >>> 8)).write (a + n) (v.setWidth 8)

-- Address sets and translation.

/-- The address lies in the region. -/
def Region.contains (r : Region) (a : Nat) : Bool := decide (r.base ≤ a) && decide (a < r.base + r.size)

/-- The address lies in one of the regions. -/
def inRegions (rs : List Region) (a : Nat) : Bool := rs.any (fun r => r.contains a)

/-- All of a .. a+n-1 lie in the regions. -/
def coversAll (rs : List Region) (a n : Nat) : Bool := (List.range n).all (fun i => inRegions rs (a + i))

/-- Any of a .. a+n-1 lies in the regions. -/
def touchesAny (rs : List Region) (a n : Nat) : Bool := (List.range n).any (fun i => inRegions rs (a + i))

/-- kseg0 (20_memory R142). -/
def inKseg0 (vaddr : Word) : Bool := decide (0xFFFFFFFF80000000#64 ≤ vaddr) && decide (vaddr ≤ 0xFFFFFFFF9FFFFFFF#64)

/-- kseg1 (20_memory R142). -/
def inKseg1 (vaddr : Word) : Bool := decide (0xFFFFFFFFA0000000#64 ≤ vaddr) && decide (vaddr ≤ 0xFFFFFFFFBFFFFFFF#64)

/-- zext_32(vaddr[28:0]). -/
def physicalOf (vaddr : Word) : PAddr := (vaddr.extractLsb' 0 29).setWidth 32

/-- Translate(vaddr): the two unmapped segments; `none` for every other address (20_memory R142, R143). -/
def translateAddress (vaddr : Word) : Option PAddr :=
  if inKseg0 vaddr || inKseg1 vaddr then some (physicalOf vaddr) else none

-- Exceptions.

/-- The exceptions the model raises, each with its info (60_exceptions R305). -/
inductive Exc where
  | interrupt
  | addressErrorLoad (vaddr : Word)
  | addressErrorStore (vaddr : Word)
  | coprocessorUnusable (unit : BitVec 2)
  deriving DecidableEq, Repr

/-- The exception code (60_exceptions R304). -/
def Exc.code : Exc → BitVec 5
  | .interrupt => 0
  | .addressErrorLoad _ => 4
  | .addressErrorStore _ => 5
  | .coprocessorUnusable _ => 11

/-- What BadVAddr becomes: the bad address of an Address Error, else its old value (60_exceptions R316). -/
def Exc.badVAddr (e : Exc) (old : Word) : Word :=
  match e with
  | .addressErrorLoad vaddr => vaddr
  | .addressErrorStore vaddr => vaddr
  | .interrupt => old
  | .coprocessorUnusable _ => old

/-- What is written to Cause.ce: the coprocessor's number on Coprocessor Unusable, a free value on every other entry
(60_exceptions R317; log 12). -/
def Exc.ce (e : Exc) (free : BitVec 2) : BitVec 2 :=
  match e with
  | .coprocessorUnusable unit => unit
  | .interrupt => free
  | .addressErrorLoad _ => free
  | .addressErrorStore _ => free

/-- Where execution resumes: the instruction, or the branch before it if it is in a delay slot (60_exceptions R312, R313). -/
def State.resumeAddress (s : State) : Word := if s.inDelay then s.pc - 4 else s.pc

/-- ExceptionEntry(code, info) (60_exceptions R312 to R317): EPC and Cause.bd only if exl was 0; then the code, ce, BadVAddr and
exl; control at the general vector. Nothing else changes. -/
def State.takeException (s : State) (e : Exc) : State :=
  let c := s.cp0
  let first := !statusExl c.status
  let cause1 := if first then withBd c.cause s.inDelay else c.cause
  { s with
    pc := s.params.generalVector (statusBev c.status)
    npc := s.params.generalVector (statusBev c.status) + 4
    inDelay := false
    cp0 := { c with
      epc := if first then s.resumeAddress else c.epc
      cause := withCe (withExcCode cause1 e.code) (e.ce (Config.ceDraw s.time))
      badVAddr := e.badVAddr c.badVAddr
      status := withExl c.status true } }

/-- ERET (40_cp0_instructions R206; 60_exceptions R320): the pc from ErrorEPC with erl cleared, or from EPC with exl cleared. It
also clears the load-linked bit (10_state R100). -/
def State.returnFromException (s : State) : State :=
  let c := s.cp0
  if statusErl c.status then
    { s with pc := c.errorEPC, npc := c.errorEPC + 4, inDelay := false, llBit := false,
             cp0 := { c with status := withErl c.status false } }
  else
    { s with pc := c.epc, npc := c.epc + 4, inDelay := false, llBit := false,
             cp0 := { c with status := withExl c.status false } }

-- The access primitives.

/-- How an access ends: with a value, in an exception, or in a stop. -/
inductive Access (α : Type) where
  | ok (v : α)
  | raise (e : Exc)
  | fault (f : Fault)
  | refuse (r : Refusal)
  deriving DecidableEq, Repr

/-- The outcome of an instruction whose access ended so: `k v` if it gave a value; an exception leaves nothing of the instruction
but its entry (60_exceptions R301). -/
def Access.finish {α : Type} (a : Access α) (s : State) (k : α → State) : Host.Outcome State Fault Refusal :=
  match a with
  | .ok v => .next (k v)
  | .raise e => .next (s.takeException e)
  | .fault f => .fault f
  | .refuse r => .refused r

/-- MemRead(vaddr, n), the value zero-extended to 64 bits (20_memory R138). -/
def memRead (s : State) (vaddr : Word) (w : Width) : Access Word :=
  if statusRe s.cp0.status then .refuse .reverseEndian
  else if vaddr.toNat % w.bytes ≠ 0 then .raise (.addressErrorLoad vaddr)
  else
    match translateAddress vaddr with
    | none => .refuse .mappedAddress
    | some pa =>
      if coversAll s.physMem pa.toNat w.bytes then .ok (s.mem.readBE pa.toNat w.bytes) else .fault .noSuchMemory

/-- MemWrite(vaddr, n, v), giving the new memory (20_memory R139, R154). -/
def memWrite (s : State) (vaddr : Word) (w : Width) (v : Word) : Access Memory :=
  if statusRe s.cp0.status then .refuse .reverseEndian
  else if vaddr.toNat % w.bytes ≠ 0 then .raise (.addressErrorStore vaddr)
  else
    match translateAddress vaddr with
    | none => .refuse .mappedAddress
    | some pa =>
      if !coversAll s.physMem pa.toNat w.bytes then .fault .noSuchMemory
      else if touchesAny s.programText pa.toNat w.bytes then .refuse .storeToProgramText
      else .ok (s.mem.writeBE pa.toNat w.bytes v)

/-- The doubleword of vaddr is the watched one (10_state R85: bits 31:3 of the physical address). -/
def watchesDoubleword (watchLo : Word32) (vaddr : Word) : Bool :=
  watchLo.extractLsb' 3 29 == (physicalOf vaddr).extractLsb' 3 29

/-- An armed watchpoint on loads (WatchLo bit 1) that a load from vaddr hits (10_state R85; log 18). -/
def watchHitsLoad (s : State) (vaddr : Word) : Bool :=
  s.cp0.watchLo.getLsbD 1 && watchesDoubleword s.cp0.watchLo vaddr

/-- An armed watchpoint on stores (WatchLo bit 0) that a store to vaddr hits (10_state R85; log 18). -/
def watchHitsStore (s : State) (vaddr : Word) : Bool :=
  s.cp0.watchLo.getLsbD 0 && watchesDoubleword s.cp0.watchLo vaddr

/-- The access of a load: MemRead, refused where the chip would raise Watch, as 60_exceptions R332 allows (log 18). -/
def loadAccess (s : State) (vaddr : Word) (w : Width) : Access Word :=
  match memRead s vaddr w with
  | .ok v => if watchHitsLoad s vaddr then .refuse .watchHit else .ok v
  | other => other

/-- The access of a store: MemWrite, refused where the chip would raise Watch, as 60_exceptions R332 allows (log 18). -/
def storeAccess (s : State) (vaddr : Word) (w : Width) (v : Word) : Access Memory :=
  match memWrite s vaddr w v with
  | .ok m => if watchHitsStore s vaddr then .refuse .watchHit else .ok m
  | other => other

/-- Instruction fetch: MemRead(pc, 4) that lies in ProgramText (20_memory R140, R154). -/
def fetch (s : State) : Access Word32 :=
  match memRead s s.pc .word with
  | .ok v => if coversAll s.programText (physicalOf s.pc).toNat 4 then .ok (low32 v) else .fault .noSuchMemory
  | .raise e => .raise e
  | .fault f => .fault f
  | .refuse r => .refuse r

/-- An instruction word placed where the next fetch reads it: its bytes at the physical address of pc, which becomes memory and
program text if it was not. The launch of one instruction (70_reset R351), no step of the machine; log 5. -/
def State.placeWord (s : State) (w : Word32) : State :=
  let a := (physicalOf s.pc).toNat
  { s with
    mem := s.mem.writeBE a 4 (w.setWidth 64)
    physMem := if coversAll s.physMem a 4 then s.physMem else ⟨a, 4⟩ :: s.physMem
    programText := if coversAll s.programText a 4 then s.programText else ⟨a, 4⟩ :: s.programText }

end Sys2Proof.Machine
end

