-- ==== Sys2Proof/Machine/Cp0.lean ====
section
/-! DEFINITION. The CP0 register file as the move instructions see it: CP0Read and CP0Write with each register's mask and side
effects, and Random (spec 10_state R30 to R40, R45, and each register's own rule). -/

namespace Sys2Proof.Machine

/-- The CP0 registers by name; `unnamed` stands for the numbers 7, 21 to 25 and 31 (10_state R30, R34). -/
inductive Cp0Reg where
  | index | random | entryLo0 | entryLo1 | context | pageMask | wired | badVAddr | count | entryHi | compare | status | cause
  | epc | prId | config | llAddr | watchLo | watchHi | xContext | parityError | cacheError | tagLo | tagHi | errorEPC
  | unnamed
  deriving DecidableEq, Repr

/-- The table of register numbers (10_state R30). -/
def cp0Reg (n : Reg) : Cp0Reg :=
  match n.toNat with
  | 0 => .index
  | 1 => .random
  | 2 => .entryLo0
  | 3 => .entryLo1
  | 4 => .context
  | 5 => .pageMask
  | 6 => .wired
  | 8 => .badVAddr
  | 9 => .count
  | 10 => .entryHi
  | 11 => .compare
  | 12 => .status
  | 13 => .cause
  | 14 => .epc
  | 15 => .prId
  | 16 => .config
  | 17 => .llAddr
  | 18 => .watchLo
  | 19 => .watchHi
  | 20 => .xContext
  | 26 => .parityError
  | 27 => .cacheError
  | 28 => .tagLo
  | 29 => .tagHi
  | 30 => .errorEPC
  | _ => .unnamed

-- Random and Wired (10_state R36 to R40, R45).

/-- cp0.Random[5:0]: the value field, whose upper 26 bits hold nothing (R36). -/
def randomField (c : Cp0) : BitVec 6 := c.random.extractLsb' 0 6

/-- cp0.Wired[5:0] (R45). -/
def wiredField (c : Cp0) : BitVec 6 := c.wired.extractLsb' 0 6

/-- A draw from lo .. 31 (R39), for lo at most 31. -/
def drawFrom (lo d : Nat) : Nat := lo + d % (32 - lo)

/-- The value of one use of Random: the counter in exact mode, a draw from Wired .. 31 in draw mode (R37, R39); with Wired above
31 a draw from 0 .. 63, the alternative R40 and U13 allow in place of a refusal (log 9). -/
def randomUse (s : State) : Nat :=
  let wired := (wiredField s.cp0).toNat
  if 31 < wired then Config.randomDraw s.time % 64
  else
    match Config.randomMode with
    | .exact => (randomField s.cp0).toNat
    | .draw => drawFrom wired (Config.randomDraw s.time)

/-- The end-of-step update of Random (R37): reset to 31 at or below Wired, else decremented. -/
def State.updateRandom (s : State) : State :=
  let next : BitVec 6 := if randomField s.cp0 ≤ wiredField s.cp0 then 31 else randomField s.cp0 - 1
  { s with cp0 := { s.cp0 with random := insertField s.cp0.random 0 next } }

-- Reading.

/-- What an instruction finds in a CP0 register number: 32 bits, whose upper half a 64-bit read does not settle, or 64 bits. -/
inductive Cp0Value where
  | narrow (v : Word32)
  | wide (v : Word)
  deriving DecidableEq, Repr

/-- CP0Read(n) as far as the spec settles it (R31): the stored value, Random as `randomUse` says (its bits 31:6 read 0, R36), a draw
for an unnamed number (R34). No read has a side effect. -/
def cp0Value (s : State) (n : Reg) : Cp0Value :=
  match cp0Reg n with
  | .index => .narrow s.cp0.index
  | .random => .narrow (BitVec.ofNat 32 (randomUse s))
  | .entryLo0 => .wide s.cp0.entryLo0
  | .entryLo1 => .wide s.cp0.entryLo1
  | .context => .wide s.cp0.context
  | .pageMask => .narrow s.cp0.pageMask
  | .wired => .narrow s.cp0.wired
  | .badVAddr => .wide s.cp0.badVAddr
  | .count => .narrow s.cp0.count
  | .entryHi => .wide s.cp0.entryHi
  | .compare => .narrow s.cp0.compare
  | .status => .narrow s.cp0.status
  | .cause => .narrow s.cp0.cause
  | .epc => .wide s.cp0.epc
  | .prId => .narrow s.cp0.prId
  | .config => .narrow s.cp0.config
  | .llAddr => .narrow s.cp0.llAddr
  | .watchLo => .narrow s.cp0.watchLo
  | .watchHi => .narrow s.cp0.watchHi
  | .xContext => .wide s.cp0.xContext
  | .parityError => .narrow s.cp0.parityError
  | .cacheError => .narrow s.cp0.cacheError
  | .tagLo => .narrow s.cp0.tagLo
  | .tagHi => .narrow s.cp0.tagHi
  | .errorEPC => .wide s.cp0.errorEPC
  | .unnamed => .wide (Config.reservedCp0Read s.time)

/-- CP0Read(n), 64 bits: above a register sized "32 bits" stands a draw (R31; log 11). -/
def cp0Read (s : State) (n : Reg) : Word :=
  match cp0Value s n with
  | .narrow v => Config.cp0UpperDraw s.time ++ v
  | .wide v => v

/-- CP0Read(n)[31:0], what a 32-bit move transfers (R31; 40_cp0_instructions R201). -/
def cp0ReadLow (s : State) (n : Reg) : Word32 :=
  match cp0Value s n with
  | .narrow v => v
  | .wide v => low32 v

-- Writing.

/-- The registers' part of CP0Write(n, v) on a machine with the parameters p (R32): each register through its mask; Compare also
clears ip7 (R54); Random and the unnamed numbers keep their value (R36, R34). -/
def Cp0.write (c : Cp0) (p : Params) (n : Reg) (v : Word) : Cp0 :=
  let lo := low32 v
  match cp0Reg n with
  | .index => { c with index := maskedWrite c.index lo p.wmask.index }
  | .random => c
  | .entryLo0 => { c with entryLo0 := maskedWrite c.entryLo0 v p.wmask.entryLo0 }
  | .entryLo1 => { c with entryLo1 := maskedWrite c.entryLo1 v p.wmask.entryLo1 }
  | .context => { c with context := maskedWrite c.context v p.wmask.context }
  | .pageMask => { c with pageMask := maskedWrite c.pageMask lo p.wmask.pageMask }
  | .wired => { c with wired := maskedWrite c.wired lo p.wmask.wired }
  | .badVAddr => { c with badVAddr := maskedWrite c.badVAddr v p.wmask.badVAddr }
  | .count => { c with count := maskedWrite c.count lo p.wmask.count }
  | .entryHi => { c with entryHi := maskedWrite c.entryHi v p.wmask.entryHi }
  | .compare => { c with compare := maskedWrite c.compare lo p.wmask.compare, cause := withIp7 c.cause false }
  | .status => { c with status := maskedWrite c.status lo p.wmaskStatus }
  | .cause => { c with cause := maskedWrite c.cause lo wmaskCause }
  | .epc => { c with epc := maskedWrite c.epc v p.wmask.epc }
  | .prId => { c with prId := maskedWrite c.prId lo p.wmask.prId }
  | .config => { c with config := maskedWrite c.config lo p.wmask.config }
  | .llAddr => { c with llAddr := maskedWrite c.llAddr lo p.wmask.llAddr }
  | .watchLo => { c with watchLo := maskedWrite c.watchLo lo p.wmask.watchLo }
  | .watchHi => { c with watchHi := maskedWrite c.watchHi lo p.wmask.watchHi }
  | .xContext => { c with xContext := maskedWrite c.xContext v p.wmask.xContext }
  | .parityError => { c with parityError := maskedWrite c.parityError lo p.wmask.parityError }
  | .cacheError => { c with cacheError := maskedWrite c.cacheError lo p.wmask.cacheError }
  | .tagLo => { c with tagLo := maskedWrite c.tagLo lo p.wmask.tagLo }
  | .tagHi => { c with tagHi := maskedWrite c.tagHi lo p.wmask.tagHi }
  | .errorEPC => { c with errorEPC := maskedWrite c.errorEPC v p.wmask.errorEPC }
  | .unnamed => c

/-- count_half after CP0Write(n, v): a write to Count clears it (R51). -/
def countHalfAfterWrite (n : Reg) (half : Bool) : Bool :=
  match cp0Reg n with
  | .count => false
  | _ => half

/-- CP0Write(n, v) (R32). -/
def State.cp0Write (s : State) (n : Reg) (v : Word) : State :=
  { s with cp0 := s.cp0.write s.params n v, countHalf := countHalfAfterWrite n s.countHalf }

-- The TLB (R98; 40_cp0_instructions R205).

/-- The raw images of the four registers TLBWR copies. -/
def tlbImage (c : Cp0) : TlbEntry :=
  { pageMask := c.pageMask, entryHi := c.entryHi, entryLo0 := c.entryLo0, entryLo1 := c.entryLo1 }

/-- Entry i of the TLB written. -/
def State.writeTlb (s : State) (i : Fin 32) (e : TlbEntry) : State := { s with tlb := s.tlb.set i.val e i.isLt }

end Sys2Proof.Machine
end

