-- ==== Sys2Proof/Machine/Control.lean ====
section
/-! DEFINITION. The control transfers (spec 41_control_transfer R220 to R231). Conditions and targets are computed from the state
before the link register is written (R220 item 2). -/

namespace Sys2Proof.Machine

/-- A control transfer outside a delay slot goes to `t`; in one it is refused (R221). -/
def transfer (s t : State) : Host.Outcome State Fault Refusal :=
  if s.inDelay then .refused .controlTransferInDelaySlot else .next t

/-- A conditional branch: taken to `target`, else to the instruction after the delay slot, which executes either way
(R220 items 1 and 3). -/
def State.branchIf (s : State) (taken : Bool) (target : Word) : State := s.branchTo (if taken then target else s.npc + 4)

/-- A branch-likely: not taken, it skips its delay slot (R220 items 1 and 3). -/
def State.branchLikelyIf (s : State) (taken : Bool) (target : Word) : State :=
  if taken then s.branchTo target else s.skipSlot

/-- r31 <- the return address (10_state R23; R220 item 4). -/
def State.link (s : State) : State := s.writeGpr 31 (linkAddress s.pc)

/-- J (R222). -/
def execJ (target : BitVec 26) (s : State) : Host.Outcome State Fault Refusal :=
  transfer s (s.branchTo (jumpTarget s.pc target))

/-- JAL (R223). -/
def execJal (target : BitVec 26) (s : State) : Host.Outcome State Fault Refusal :=
  transfer s (s.link.branchTo (jumpTarget s.pc target))

/-- JR (R224). -/
def execJr (rs : Reg) (s : State) : Host.Outcome State Fault Refusal :=
  transfer s (s.branchTo (s.readGpr rs))

/-- JALR (R225): the target is read before rd is written. -/
def execJalr (rd rs : Reg) (s : State) : Host.Outcome State Fault Refusal :=
  transfer s ((s.writeGpr rd (linkAddress s.pc)).branchTo (s.readGpr rs))

/-- BEQ (R226): all 64 bits are compared. -/
def execBeq (rs rt : Reg) (imm : BitVec 16) (s : State) : Host.Outcome State Fault Refusal :=
  transfer s (s.branchIf (s.readGpr rs == s.readGpr rt) (branchTarget s.pc imm))

/-- BNE (R227): all 64 bits are compared. -/
def execBne (rs rt : Reg) (imm : BitVec 16) (s : State) : Host.Outcome State Fault Refusal :=
  transfer s (s.branchIf (s.readGpr rs != s.readGpr rt) (branchTarget s.pc imm))

/-- BLTZAL (R228): the link is written whether or not the branch is taken. -/
def execBltzal (rs : Reg) (imm : BitVec 16) (s : State) : Host.Outcome State Fault Refusal :=
  transfer s (s.link.branchIf (isNegative (s.readGpr rs)) (branchTarget s.pc imm))

/-- BGEZAL (R229). -/
def execBgezal (rs : Reg) (imm : BitVec 16) (s : State) : Host.Outcome State Fault Refusal :=
  transfer s (s.link.branchIf (!isNegative (s.readGpr rs)) (branchTarget s.pc imm))

/-- BLTZALL (R230). -/
def execBltzall (rs : Reg) (imm : BitVec 16) (s : State) : Host.Outcome State Fault Refusal :=
  transfer s (s.link.branchLikelyIf (isNegative (s.readGpr rs)) (branchTarget s.pc imm))

/-- BGEZALL (R231). -/
def execBgezall (rs : Reg) (imm : BitVec 16) (s : State) : Host.Outcome State Fault Refusal :=
  transfer s (s.link.branchLikelyIf (!isNegative (s.readGpr rs)) (branchTarget s.pc imm))

end Sys2Proof.Machine
end

