-- ==== Sys2Proof/Machine/Cp0Instr.lean ====
section
/-! DEFINITION. The CP0 instructions (spec 40_cp0_instructions R200 to R206). Status.cu0 is ignored: CP0 is always enabled. -/

namespace Sys2Proof.Machine

/-- MFC0 (R201): x[rt] <- sext_64(CP0Read(rd)[31:0]). -/
def execMfc0 (rt rd : Reg) (s : State) : Host.Outcome State Fault Refusal :=
  .next (s.complete rt (sext64 (cp0ReadLow s rd)))

/-- DMFC0 (R202): x[rt] <- CP0Read(rd). -/
def execDmfc0 (rt rd : Reg) (s : State) : Host.Outcome State Fault Refusal :=
  .next (s.complete rt (cp0Read s rd))

/-- MTC0 (R203): CP0Write(rd, sext_64(x[rt][31:0])). -/
def execMtc0 (rt rd : Reg) (s : State) : Host.Outcome State Fault Refusal :=
  .next ((s.cp0Write rd (sext64 (low32 (s.readGpr rt)))).advance)

/-- DMTC0 (R204): CP0Write(rd, x[rt]). -/
def execDmtc0 (rt rd : Reg) (s : State) : Host.Outcome State Fault Refusal :=
  .next ((s.cp0Write rd (s.readGpr rt)).advance)

/-- TLBWR (R205): tlb[Random] <- the images of PageMask, EntryHi, EntryLo0, EntryLo1; refused where the index names none of the 32
entries, which only Wired above 31 allows (10_state R40; log 9). -/
def execTlbwr (s : State) : Host.Outcome State Fault Refusal :=
  let i := randomUse s
  if h : i < 32 then .next ((s.writeTlb ⟨i, h⟩ (tlbImage s.cp0)).advance)
  else .refused .wiredOutOfRange

/-- ERET (R206); refused in a delay slot (41_control_transfer R221). -/
def execEret (s : State) : Host.Outcome State Fault Refusal :=
  if s.inDelay then .refused .controlTransferInDelaySlot else .next s.returnFromException

end Sys2Proof.Machine
end

