-- ==== Sys2Proof/Machine/Cp1.lean ====
section
/-! DEFINITION. The CP1 class (spec 44_cp1_class R280 to R286): the gate Status.cu1, decided from the major opcode alone; no
operand is read and no address is formed. -/

namespace Sys2Proof.Machine

/-- With cu1 = 0 the class raises Coprocessor Unusable with ce = 1 (R280); with cu1 = 1 the spec gives it no meaning (R281). -/
def cp1Gate (s : State) : Host.Outcome State Fault Refusal :=
  if statusCu1 s.cp0.status then .refused .cp1NotModelled else .next (s.takeException (.coprocessorUnusable 1))

/-- COP1 (R282). -/
def execCop1 (_cofun : BitVec 26) (s : State) : Host.Outcome State Fault Refusal := cp1Gate s

/-- LWC1 (R283). -/
def execLwc1 (_ft _base : Reg) (_offset : BitVec 16) (s : State) : Host.Outcome State Fault Refusal := cp1Gate s

/-- LDC1 (R284). -/
def execLdc1 (_ft _base : Reg) (_offset : BitVec 16) (s : State) : Host.Outcome State Fault Refusal := cp1Gate s

/-- SWC1 (R285). -/
def execSwc1 (_ft _base : Reg) (_offset : BitVec 16) (s : State) : Host.Outcome State Fault Refusal := cp1Gate s

/-- SDC1 (R286). -/
def execSdc1 (_ft _base : Reg) (_offset : BitVec 16) (s : State) : Host.Outcome State Fault Refusal := cp1Gate s

end Sys2Proof.Machine
end

