-- ==== Sys2Proof/Machine/Integer.lean ====
section
/-! DEFINITION. The integer instructions (spec 42_integer R240 to R252): no flag, no exception, no memory. -/

namespace Sys2Proof.Machine

/-- The result of ADDU and ADDIU: the sum of the low halves, sign-extended, when the register operands are canonical
(`canonical`); else a free 32-bit value, the result R241 calls undefined (log 13), sign-extended as every 32-bit result is (R240). -/
def sum32 (s : State) (canonical : Bool) (a b : Word) : Word :=
  if canonical then addLow32 a b else sext64 (Config.nonCanonicalSum s.time)

/-- SLL (R242). -/
def execSll (rd rt : Reg) (sa : BitVec 5) (s : State) : Host.Outcome State Fault Refusal :=
  .next (s.complete rd (shiftLow32 (s.readGpr rt) sa))

/-- ADDU (R243, R241). -/
def execAddu (rd rs rt : Reg) (s : State) : Host.Outcome State Fault Refusal :=
  .next (s.complete rd
    (sum32 s (isCanonical32 (s.readGpr rs) && isCanonical32 (s.readGpr rt)) (s.readGpr rs) (s.readGpr rt)))

/-- DADDU (R244). -/
def execDaddu (rd rs rt : Reg) (s : State) : Host.Outcome State Fault Refusal :=
  .next (s.complete rd (s.readGpr rs + s.readGpr rt))

/-- AND (R245). -/
def execAnd (rd rs rt : Reg) (s : State) : Host.Outcome State Fault Refusal :=
  .next (s.complete rd (s.readGpr rs &&& s.readGpr rt))

/-- OR (R246). -/
def execOr (rd rs rt : Reg) (s : State) : Host.Outcome State Fault Refusal :=
  .next (s.complete rd (s.readGpr rs ||| s.readGpr rt))

/-- ADDIU (R247, R241). -/
def execAddiu (rt rs : Reg) (imm : BitVec 16) (s : State) : Host.Outcome State Fault Refusal :=
  .next (s.complete rt (sum32 s (isCanonical32 (s.readGpr rs)) (s.readGpr rs) (signImm imm)))

/-- DADDIU (R248). -/
def execDaddiu (rt rs : Reg) (imm : BitVec 16) (s : State) : Host.Outcome State Fault Refusal :=
  .next (s.complete rt (s.readGpr rs + signImm imm))

/-- ANDI (R249). -/
def execAndi (rt rs : Reg) (imm : BitVec 16) (s : State) : Host.Outcome State Fault Refusal :=
  .next (s.complete rt (s.readGpr rs &&& zeroImm imm))

/-- ORI (R250). -/
def execOri (rt rs : Reg) (imm : BitVec 16) (s : State) : Host.Outcome State Fault Refusal :=
  .next (s.complete rt (s.readGpr rs ||| zeroImm imm))

/-- LUI (R251). -/
def execLui (rt : Reg) (imm : BitVec 16) (s : State) : Host.Outcome State Fault Refusal :=
  .next (s.complete rt (upperImm imm))

end Sys2Proof.Machine
end

