-- ==== Sys2Proof/Machine/LoadStore.lean ====
section
/-! DEFINITION. The loads and stores (spec 43_load_store R260 to R272), over one load and one store operation. A misaligned
address raises Address Error and nothing is written (R261). -/

namespace Sys2Proof.Machine

/-- The effective address of a load or store (R260). -/
def State.effectiveAddress (s : State) (base : Reg) (offset : BitVec 16) : Word :=
  Sys2Proof.Machine.effectiveAddress (s.readGpr base) offset

/-- A load: the value read, extended by `extend`, goes to rt; rt = 0 still performs the access (R261, 10_state R21). -/
def load (w : Width) (extend : Width → Word → Word) (rt base : Reg) (offset : BitVec 16) (s : State) :
    Host.Outcome State Fault Refusal :=
  (loadAccess s (s.effectiveAddress base offset) w).finish s (fun v => s.complete rt (extend w v))

/-- A store: the low bytes of x[rt] go to memory (R261). -/
def store (w : Width) (rt base : Reg) (offset : BitVec 16) (s : State) : Host.Outcome State Fault Refusal :=
  (storeAccess s (s.effectiveAddress base offset) w (s.readGpr rt)).finish s (fun m => (s.withMem m).advance)

/-- LB (R262): x[rt] <- sext_64 of the byte. -/
def execLb (rt base : Reg) (offset : BitVec 16) (s : State) : Host.Outcome State Fault Refusal :=
  load .byte signExtendLoad rt base offset s

/-- LBU (R263): x[rt] <- zext_64 of the byte. -/
def execLbu (rt base : Reg) (offset : BitVec 16) (s : State) : Host.Outcome State Fault Refusal :=
  load .byte zeroExtendLoad rt base offset s

/-- LH (R264): x[rt] <- sext_64 of the halfword. -/
def execLh (rt base : Reg) (offset : BitVec 16) (s : State) : Host.Outcome State Fault Refusal :=
  load .half signExtendLoad rt base offset s

/-- LHU (R265): x[rt] <- zext_64 of the halfword. -/
def execLhu (rt base : Reg) (offset : BitVec 16) (s : State) : Host.Outcome State Fault Refusal :=
  load .half zeroExtendLoad rt base offset s

/-- LW (R266): x[rt] <- sext_64 of the word. -/
def execLw (rt base : Reg) (offset : BitVec 16) (s : State) : Host.Outcome State Fault Refusal :=
  load .word signExtendLoad rt base offset s

/-- LWU (R267): x[rt] <- zext_64 of the word. -/
def execLwu (rt base : Reg) (offset : BitVec 16) (s : State) : Host.Outcome State Fault Refusal :=
  load .word zeroExtendLoad rt base offset s

/-- LD (R268): x[rt] <- the doubleword. -/
def execLd (rt base : Reg) (offset : BitVec 16) (s : State) : Host.Outcome State Fault Refusal :=
  load .dword zeroExtendLoad rt base offset s

/-- SB (R269): MemWrite of x[rt][7:0]. -/
def execSb (rt base : Reg) (offset : BitVec 16) (s : State) : Host.Outcome State Fault Refusal :=
  store .byte rt base offset s

/-- SH (R270): MemWrite of x[rt][15:0]. -/
def execSh (rt base : Reg) (offset : BitVec 16) (s : State) : Host.Outcome State Fault Refusal :=
  store .half rt base offset s

/-- SW (R271): MemWrite of x[rt][31:0]. -/
def execSw (rt base : Reg) (offset : BitVec 16) (s : State) : Host.Outcome State Fault Refusal :=
  store .word rt base offset s

/-- SD (R272): MemWrite of x[rt]. -/
def execSd (rt base : Reg) (offset : BitVec 16) (s : State) : Host.Outcome State Fault Refusal :=
  store .dword rt base offset s

end Sys2Proof.Machine
end

