-- ==== Sys2Proof/Machine/Cycle.lean ====
section
/-! DEFINITION. One step of the processor (spec 60_exceptions R300) and the clock ticks between two steps (10_state R49). -/

namespace Sys2Proof.Machine

-- The clock.

/-- What a tick can change: Count, count_half and Cause.ip7 (10_state R49, 00_scope R15). -/
structure Timer where
  count : Word32
  half : Bool
  ip7 : Bool
  deriving DecidableEq, Repr

/-- One tick (10_state R49): every second one increments Count, and the increment that reaches Compare sets ip7. -/
def Timer.tick (compare : Word32) (t : Timer) : Timer :=
  if t.half then { count := t.count + 1, half := false, ip7 := t.ip7 || t.count + 1 == compare }
  else { t with half := true }

/-- n ticks. -/
def Timer.ticks (compare : Word32) : Nat → Timer → Timer
  | 0, t => t
  | n + 1, t => Timer.ticks compare n (t.tick compare)

/-- The timer's part of the state. -/
def State.timer (s : State) : Timer := { count := s.cp0.count, half := s.countHalf, ip7 := causeIp7 s.cp0.cause }

/-- The timer's part of the state replaced. -/
def State.withTimer (s : State) (t : Timer) : State :=
  { s with countHalf := t.half, cp0 := { s.cp0 with count := t.count, cause := withIp7 s.cp0.cause t.ip7 } }

/-- n ticks of the clock; nothing but the timer's part changes. -/
def State.ticks (s : State) (n : Nat) : State := s.withTimer (Timer.ticks s.cp0.compare n s.timer)

/-- Between step t and step t+1: n ticks, and the model's own step counter advances. -/
def State.betweenSteps (s : State) (n : Nat) : State := { s.ticks n with time := s.time + 1 }

-- The step.

/-- R300 clause 0: the external lines are sampled into Cause[14:10] (R308). -/
def State.sampleLines (s : State) (lines : BitVec 5) : State :=
  s.withCp0 { s.cp0 with cause := withLines s.cp0.cause lines }

/-- How the clauses before execution end. -/
inductive Front where
  | interrupt
  | execute (i : Instr)
  | raise (e : Exc)
  | fault (f : Fault)
  | refuse (r : Refusal)
  deriving DecidableEq, Repr

/-- R300 clauses 1 to 4: mode check, interrupt check, fetch, decode. -/
def front (s : State) : Front :=
  if effectiveMode s.cp0.status ≠ .kernel then .refuse .nonKernelMode
  else if interruptTaken s.cp0.status s.cp0.cause then .interrupt
  else
    match fetch s with
    | .raise e => .raise e
    | .fault f => .fault f
    | .refuse r => .refuse r
    | .ok w =>
      match decode w with
      | .ok i => .execute i
      | .error _ => .refuse .unmodelledEncoding

/-- The next state of an outcome changed by f; a stop stays a stop. -/
def mapNext (f : State → State) (o : Host.Outcome State Fault Refusal) : Host.Outcome State Fault Refusal :=
  match o with
  | .next t => .next (f t)
  | .fault e => .fault e
  | .refused r => .refused r

/-- R300 clauses 1 to 8 on a state whose lines are sampled. An interrupt executes no instruction, so Random is left alone
(10_state R37, 90_conflicts C10); every step that reaches the fetch updates it. -/
def process (s : State) : Host.Outcome State Fault Refusal :=
  match front s with
  | .interrupt => .next (s.takeException .interrupt)
  | .execute i => mapNext State.updateRandom (exec i s)
  | .raise e => .next (s.takeException e).updateRandom
  | .fault f => .fault f
  | .refuse r => .refused r

/-- One processor step with the external lines at `lines` and no tick (R300). -/
def cycle (lines : BitVec 5) (s : State) : Host.Outcome State Fault Refusal := process (s.sampleLines lines)

/-- One processor step with its lines, and the ticks that fall after it. -/
def stepWith (lines : BitVec 5) (n : Nat) (s : State) : Host.Outcome State Fault Refusal :=
  mapNext (fun t => t.betweenSteps n) (cycle lines s)

end Sys2Proof.Machine
end

