-- ==== Sys2Proof/Machine/Step.lean ====
section
/-! DEFINITION. The machine's step, with the free inputs of spec 00_scope R8 (the external lines and the tick schedule) taken
from Config at the state's own time. -/

namespace Sys2Proof.Machine

/-- One step: the processor's step (60_exceptions R300) at ExtIP(t), then the ticks TickSchedule gives (10_state R49). -/
def step (s : State) : Host.Outcome State Fault Refusal :=
  stepWith (Config.extIP s.time) (Config.tickSchedule s.time) s

/-- The state with an instruction (the word w, nbits of it) placed where the next step fetches: the launch of one instruction,
log 5. -/
def State.withFetchWord (s : State) (nbits w : Nat) : State := s.placeWord (BitVec.ofNat 32 (w % 2 ^ nbits))

end Sys2Proof.Machine
end

