-- ==== Sys2Proof/Safety.lean ====
section
/-! DEFINITION. The terms statements are written in: frames (what a step leaves unchanged), the invariants of a run, and
classes of instructions. -/

namespace Sys2Proof.Machine

-- Frames.

/-- Every general register but r is unchanged. -/
def SameGprsBut (r : Reg) (s t : State) : Prop := ∀ q : Reg, q ≠ r → t.readGpr q = s.readGpr q

/-- Every general register is unchanged. -/
def SameGprs (s t : State) : Prop := ∀ q : Reg, t.readGpr q = s.readGpr q

/-- The hidden and auxiliary state is unchanged: count_half, the load-linked bit, the floating-point registers. -/
def SameHidden (s t : State) : Prop := t.countHalf = s.countHalf ∧ t.llBit = s.llBit ∧ t.fpr = s.fpr

/-- Every CP0 register, the TLB and the hidden state are unchanged. -/
def SameSystem (s t : State) : Prop := t.cp0 = s.cp0 ∧ t.tlb = s.tlb ∧ SameHidden s t

/-- Every byte of memory is unchanged. -/
def SameMemory (s t : State) : Prop := ∀ a : Nat, t.mem.read a = s.mem.read a

/-- Every byte of memory outside a .. a+n-1 is unchanged. -/
def SameMemoryOutside (a n : Nat) (s t : State) : Prop :=
  ∀ b : Nat, ¬ (a ≤ b ∧ b < a + n) → t.mem.read b = s.mem.read b

/-- The launch parameters and the model's step counter are unchanged. -/
def SameLaunch (s t : State) : Prop :=
  t.physMem = s.physMem ∧ t.programText = s.programText ∧ t.params = s.params ∧ t.time = s.time

/-- Control went to the next instruction (10_state R28). -/
def Advanced (s t : State) : Prop := t.pc = s.npc ∧ t.npc = s.npc + 4 ∧ t.inDelay = false

/-- x[r] holds v, or 0 if r is r0 (10_state R21). -/
def HoldsGpr (t : State) (r : Reg) (v : Word) : Prop := t.readGpr r = if r = 0 then 0 else v

/-- t is s with x[r] <- v, and perhaps another pc: every other register, all of CP0, the TLB and every byte of memory are
unchanged. -/
def OnlyWritesGpr (s t : State) (r : Reg) (v : Word) : Prop :=
  HoldsGpr t r v ∧ SameGprsBut r s t ∧ SameSystem s t ∧ SameMemory s t ∧ SameLaunch s t

/-- The instruction completes, its only effect x[r] <- v (discarded for r0), and control advances. -/
def CompletesWriting (i : Instr) (s : State) (r : Reg) (v : Word) : Prop :=
  ∃ t, exec i s = .next t ∧ OnlyWritesGpr s t r v ∧ Advanced s t

/-- Nothing but pc, npc and the delay-slot mark changed. -/
def OnlyMovesPc (s t : State) : Prop := SameGprs s t ∧ SameSystem s t ∧ SameMemory s t ∧ SameLaunch s t

/-- Control goes to the delay slot and then to `target` (10_state R28, 41_control_transfer R220 item 3). -/
def BranchesTo (s t : State) (target : Word) : Prop := t.pc = s.npc ∧ t.npc = target ∧ t.inDelay = true

/-- The delay slot is skipped (10_state R28, 41_control_transfer R220 item 3). -/
def SkipsSlot (s t : State) : Prop := t.pc = s.npc + 4 ∧ t.npc = s.npc + 8 ∧ t.inDelay = false

/-- The CP0 registers became `c` and count_half `half`; every general register, the TLB, the rest of the hidden state and every
byte of memory are unchanged. -/
def OnlyWritesCp0 (s t : State) (c : Cp0) (half : Bool) : Prop :=
  t.cp0 = c ∧ t.countHalf = half ∧ t.tlb = s.tlb ∧ t.llBit = s.llBit ∧ t.fpr = s.fpr ∧ SameGprs s t ∧ SameMemory s t ∧
    SameLaunch s t

/-- Both moves of x[rt] to CP0 number rd complete, advance, and leave the CP0 registers as `c` and count_half as `half`. -/
def MovesLeave (rt rd : Reg) (s : State) (c : Cp0) (half : Bool) : Prop :=
  (∃ t, exec (.mtc0 rt rd) s = .next t ∧ OnlyWritesCp0 s t c half ∧ Advanced s t) ∧
  (∃ t, exec (.dmtc0 rt rd) s = .next t ∧ OnlyWritesCp0 s t c half ∧ Advanced s t)

/-- The physical address of a load's or store's first byte (43_load_store R260, 20_memory R142). -/
def State.dataAddress (s : State) (base : Reg) (offset : BitVec 16) : Nat :=
  (physicalOf (s.effectiveAddress base offset)).toNat

/-- The n bytes at physical address a, the most significant first (20_memory R136). -/
def BytesAt (s : State) (a n : Nat) (v : Word) : Prop :=
  ∀ k : Nat, k < n → s.mem.read (a + k) = v.extractLsb' (8 * (n - 1 - k)) 8

/-- The instruction completes, its only effect the n low bytes of v at physical addresses a to a+n-1, and control advances. -/
def CompletesStoring (i : Instr) (s : State) (a n : Nat) (v : Word) : Prop :=
  ∃ t, exec i s = .next t ∧ BytesAt t a n v ∧ SameMemoryOutside a n s t ∧ SameGprs s t ∧ SameSystem s t ∧ SameLaunch s t ∧
    Advanced s t

/-- t is s after ExceptionEntry for e, clause by clause as 60_exceptions R312 writes it, with R313, R314's third row and R315 to
R317: EPC and Cause.bd, only if exl was 0; the code; ce on Coprocessor Unusable (its value on every other entry is free); the
rest of Cause kept; BadVAddr on an Address Error; exl; no other CP0 register; the general vector; nothing else. -/
def EntersException (s t : State) (e : Exc) : Prop :=
  (if statusExl s.cp0.status then t.cp0.epc = s.cp0.epc ∧ causeBd t.cp0.cause = causeBd s.cp0.cause
   else t.cp0.epc = (if s.inDelay then s.pc - 4 else s.pc) ∧ causeBd t.cp0.cause = s.inDelay) ∧
  causeExcCode t.cp0.cause = e.code ∧
  (match e with
    | .coprocessorUnusable unit => causeCe t.cp0.cause = unit
    | .interrupt => True
    | .addressErrorLoad _ => True
    | .addressErrorStore _ => True) ∧
  t.cp0.cause &&& 0x4FFFFF83 = s.cp0.cause &&& 0x4FFFFF83 ∧
  t.cp0.badVAddr = (match e with
    | .addressErrorLoad vaddr => vaddr
    | .addressErrorStore vaddr => vaddr
    | .interrupt => s.cp0.badVAddr
    | .coprocessorUnusable _ => s.cp0.badVAddr) ∧
  t.cp0.status = s.cp0.status ||| 0x2 ∧
  t.cp0 = { s.cp0 with epc := t.cp0.epc, cause := t.cp0.cause, badVAddr := t.cp0.badVAddr, status := t.cp0.status } ∧
  t.pc = s.params.vectorBase (statusBev s.cp0.status) + 0x180 ∧ t.npc = t.pc + 4 ∧
  t.inDelay = false ∧ SameGprs s t ∧ t.tlb = s.tlb ∧ SameHidden s t ∧ SameMemory s t ∧ SameLaunch s t

/-- t is s with the images of PageMask, EntryHi, EntryLo0 and EntryLo1 in entry i of the TLB, and control advanced; nothing else
changed (40_cp0_instructions R205). -/
def WritesTlbEntry (s t : State) (i : Fin 32) : Prop :=
  t.tlb[i.val] = ⟨s.cp0.pageMask, s.cp0.entryHi, s.cp0.entryLo0, s.cp0.entryLo1⟩ ∧
  (∀ j : Fin 32, j ≠ i → t.tlb[j.val] = s.tlb[j.val]) ∧
  t.cp0 = s.cp0 ∧ SameHidden s t ∧ SameGprs s t ∧ SameMemory s t ∧ SameLaunch s t ∧ Advanced s t

-- What a step did.

/-- The state with its external lines sampled, as the step from s sees it (60_exceptions R300 clause 0, R308). -/
def State.sampled (s : State) : State := s.sampleLines (Config.extIP s.time)

/-- The step from s executes the instruction i: no interrupt is taken, and i is what is fetched and decoded. -/
def Executes (s : State) (i : Instr) : Prop := front s.sampled = .execute i

/-- The step from s takes an interrupt (60_exceptions R300 clause 2). -/
def TakesInterrupt (s : State) : Prop := front s.sampled = .interrupt

/-- The step from s moves a general register to CP0 number n. -/
def MovesTo (s : State) (n : Reg) : Prop := ∃ rt : Reg, Executes s (.mtc0 rt n) ∨ Executes s (.dmtc0 rt n)

-- Invariants.

/-- Random is at most 31 and, while Wired is at most 31, at least Wired (10_state R38). -/
def RandomInRange (s : State) : Prop :=
  (randomField s.cp0).toNat ≤ 31 ∧
    ((wiredField s.cp0).toNat ≤ 31 → (wiredField s.cp0).toNat ≤ (randomField s.cp0).toNat)

/-- The bits of Cause the source calls "Unused (always zero)" are 0 (10_state R75). -/
def CauseUnusedZero (s : State) : Prop := s.cp0.cause &&& 0x4FFF0083 = 0

/-- The bits of `r` that `mask` withholds from software are those of `fixed`. -/
def HoldsFixed {w : Nat} (r mask fixed : BitVec w) : Prop := r &&& ~~~mask = fixed &&& ~~~mask

/-- Every CP0 register that only moves load holds Fixed(n) outside WMask(n), PRId thereby PRIdValue (00_scope R8, 10_state R32 and
each register's rule); Random holds 0 above its value (R36); Config.BE, where the mask withholds it, is 1 (20_memory R137, log 15). -/
def ReservedBitsFixed (s : State) : Prop :=
  HoldsFixed s.cp0.index s.params.wmask.index s.params.fixed.index ∧
  HoldsFixed s.cp0.entryLo0 s.params.wmask.entryLo0 s.params.fixed.entryLo0 ∧
  HoldsFixed s.cp0.entryLo1 s.params.wmask.entryLo1 s.params.fixed.entryLo1 ∧
  HoldsFixed s.cp0.context s.params.wmask.context s.params.fixed.context ∧
  HoldsFixed s.cp0.pageMask s.params.wmask.pageMask s.params.fixed.pageMask ∧
  HoldsFixed s.cp0.wired s.params.wmask.wired s.params.fixed.wired ∧
  HoldsFixed s.cp0.entryHi s.params.wmask.entryHi s.params.fixed.entryHi ∧
  HoldsFixed s.cp0.llAddr s.params.wmask.llAddr s.params.fixed.llAddr ∧
  HoldsFixed s.cp0.watchLo s.params.wmask.watchLo s.params.fixed.watchLo ∧
  HoldsFixed s.cp0.watchHi s.params.wmask.watchHi s.params.fixed.watchHi ∧
  HoldsFixed s.cp0.xContext s.params.wmask.xContext s.params.fixed.xContext ∧
  HoldsFixed s.cp0.parityError s.params.wmask.parityError s.params.fixed.parityError ∧
  HoldsFixed s.cp0.cacheError s.params.wmask.cacheError s.params.fixed.cacheError ∧
  HoldsFixed s.cp0.tagLo s.params.wmask.tagLo s.params.fixed.tagLo ∧
  HoldsFixed s.cp0.tagHi s.params.wmask.tagHi s.params.fixed.tagHi ∧
  HoldsFixed s.cp0.errorEPC s.params.wmask.errorEPC s.params.fixed.errorEPC ∧
  HoldsFixed s.cp0.compare s.params.wmask.compare s.params.fixed.compare ∧
  HoldsFixed s.cp0.prId s.params.wmask.prId s.params.prIdValue ∧
  HoldsFixed s.cp0.config s.params.wmask.config s.params.fixed.config ∧
  (s.params.wmask.config.getLsbD 15 = false → s.cp0.config.getLsbD 15 = true) ∧ s.cp0.random &&& 0xFFFFFFC0 = 0

-- Reset.

/-- What 10_state R101 promises of the state after reset, for any ResetState (00_scope R8, D21): pc, npc and in_delay; Random and
Wired; erl, BEV, TS, SR and rp of Status; the always-zero bits of Cause; BE and EP of Config and Cache Error; the fixed bits. Every other
piece of state may hold any value. -/
def AfterReset (s : State) : Prop :=
  s.pc = s.params.resetVector ∧ s.npc = s.params.resetVector + 4 ∧ s.inDelay = false ∧
  randomField s.cp0 = 31 ∧ s.cp0.wired = 0 ∧
  statusErl s.cp0.status = true ∧ statusBev s.cp0.status = true ∧ s.cp0.status.getLsbD 21 = false ∧
  s.cp0.status.getLsbD 20 = false ∧ s.cp0.status.getLsbD 27 = false ∧
  CauseUnusedZero s ∧ s.cp0.config.getLsbD 15 = true ∧ s.cp0.config.extractLsb' 24 4 = 0 ∧ s.cp0.cacheError = 0 ∧ ReservedBitsFixed s

-- Classes of instructions.

/-- The control transfers of 41_control_transfer, and ERET (41_control_transfer R221). -/
def isControlTransfer : Instr → Bool
  | .eret | .j _ | .jal _ | .jr _ | .jalr _ _ | .beq _ _ _ | .bne _ _ _ => true
  | .bltzal _ _ | .bgezal _ _ | .bltzall _ _ | .bgezall _ _ => true
  | _ => false

/-- The CP1 class (30_encoding R182). -/
def isCp1Class : Instr → Bool
  | .cop1 _ | .lwc1 _ _ _ | .ldc1 _ _ _ | .swc1 _ _ _ | .sdc1 _ _ _ => true
  | _ => false

/-- The CP0 number a move to CP0 writes, if the instruction is one (40_cp0_instructions R203, R204). -/
def cp0Destination : Instr → Option Reg
  | .mtc0 _ rd | .dmtc0 _ rd => some rd
  | _ => none

/-- What a load needs to complete (43_load_store R261, 20_memory R138): re = 0, an aligned address in kseg0 or kseg1, memory
there, and no armed watchpoint on it. -/
def LoadReady (s : State) (vaddr : Word) (w : Width) : Prop :=
  statusRe s.cp0.status = false ∧ vaddr.toNat % w.bytes = 0 ∧ translateAddress vaddr = some (physicalOf vaddr) ∧
    coversAll s.physMem (physicalOf vaddr).toNat w.bytes = true ∧ watchHitsLoad s vaddr = false

/-- What a store needs to complete (43_load_store R261, 20_memory R139): as a load, and no byte of it in ProgramText. -/
def StoreReady (s : State) (vaddr : Word) (w : Width) : Prop :=
  statusRe s.cp0.status = false ∧ vaddr.toNat % w.bytes = 0 ∧ translateAddress vaddr = some (physicalOf vaddr) ∧
    coversAll s.physMem (physicalOf vaddr).toNat w.bytes = true ∧
    touchesAny s.programText (physicalOf vaddr).toNat w.bytes = false ∧ watchHitsStore s vaddr = false

/-- A step is safe if it answers a next state (00_scope R12: completed, or an exception taken). -/
def SafeStep (s : State) : Prop := ∃ t, step s = .next t

end Sys2Proof.Machine
end

