-- ==== Sys2Proof/Certificates/Slice0/Obligations.lean ====
section
/-! DEFINITION. The statements for the provers. Each docstring names the rule of spec/ it formalises, or says that it rests on a
choice of the model and names the log entry. -/

section

open Sys2Proof Sys2Proof.Machine

-- Encoding and decoding (30_encoding).

/-- Decode and encode agree: no operand bit is dropped (30_encoding R171 to R173, R177). -/
def Obligations.DecodeEncode : Prop := ∀ i : Instr, decode (encode i) = .ok i

/-- Encode and decode agree: an instruction word has one reading, and no bit of it is ignored (30_encoding R177, R183). -/
def Obligations.EncodeDecode : Prop := ∀ (w : Word32) (i : Instr), decode w = .ok i → encode i = w

/-- 30_encoding R177: a word selects at most one row, the row it selects is the instruction, and a word that selects none is no
instruction. -/
def Obligations.EachWordSelectsOneRow : Prop :=
  ∀ w : Word32,
    (∀ r ∈ opcodeRows, w &&& r.mask = r.pattern →
      decode w = .ok (r.build w) ∧ ∀ r' ∈ opcodeRows, w &&& r'.mask = r'.pattern → r'.mnemonic = r.mnemonic) ∧
    ((∀ r ∈ opcodeRows, w &&& r.mask ≠ r.pattern) → decode w = .error (.unmodelledEncoding w))

/-- The match and mask columns of 30_encoding R179 to R182. -/
def Obligations.OpcodeColumns : Prop :=
  ∀ p ∈ [("SLL", 0x00000000#32, 0xFFE0003F#32), ("JR", 0x00000008#32, 0xFC1FFFFF#32), ("JALR", 0x00000009#32, 0xFC1F07FF#32),
      ("ADDU", 0x00000021#32, 0xFC0007FF#32), ("AND", 0x00000024#32, 0xFC0007FF#32), ("OR", 0x00000025#32, 0xFC0007FF#32),
      ("DADDU", 0x0000002D#32, 0xFC0007FF#32)] ++
    [("BLTZAL", 0x04100000#32, 0xFC1F0000#32), ("BGEZAL", 0x04110000#32, 0xFC1F0000#32),
      ("BLTZALL", 0x04120000#32, 0xFC1F0000#32), ("BGEZALL", 0x04130000#32, 0xFC1F0000#32)] ++
    [("MFC0", 0x40000000#32, 0xFFE007FF#32), ("DMFC0", 0x40200000#32, 0xFFE007FF#32), ("MTC0", 0x40800000#32, 0xFFE007FF#32),
      ("DMTC0", 0x40A00000#32, 0xFFE007FF#32), ("TLBWR", 0x42000006#32, 0xFFFFFFFF#32),
      ("ERET", 0x42000018#32, 0xFFFFFFFF#32)] ++
    [("COP1", 0x44000000#32, 0xFC000000#32), ("LWC1", 0xC4000000#32, 0xFC000000#32), ("LDC1", 0xD4000000#32, 0xFC000000#32),
      ("SWC1", 0xE4000000#32, 0xFC000000#32), ("SDC1", 0xF4000000#32, 0xFC000000#32)],
    p ∈ opcodeRows.map (fun r => (r.mnemonic, r.pattern, r.mask))

/-- A word of each family, written out from the example of its own rule, decodes to the instruction it stands for. -/
def Obligations.SampleWordsDecode : Prop :=
  decode 0x40886000 = .ok (.mtc0 8 12) ∧ decode 0x42000006 = .ok .tlbwr ∧ decode 0x42000018 = .ok .eret ∧
  decode 0x0C000110 = .ok (.jal 0x110) ∧ decode 0x0320F809 = .ok (.jalr 31 25) ∧ decode 0x1500FFFE = .ok (.bne 8 0 0xFFFE) ∧
  decode 0x05120004 = .ok (.bltzall 8 4) ∧ decode 0x00084900 = .ok (.sll 9 8 4) ∧ decode 0x01095021 = .ok (.addu 10 8 9) ∧
  decode 0x3C088000 = .ok (.lui 8 0x8000) ∧ decode 0x8D090004 = .ok (.lw 9 8 4) ∧ decode 0xFD090000 = .ok (.sd 9 8 0) ∧
  decode 0x44880000 = .ok (.cop1 0x880000) ∧ decode 0xC5020004 = .ok (.lwc1 2 8 4)

-- The step (60_exceptions section 1).

/-- A step runs the decoded instruction: in kernel mode with no interrupt to take, if the four bytes at an aligned pc in a kernel
segment, in memory and in the program text, decode to i, then the step is exec i on the state with its external lines sampled,
then the update of Random, then the ticks (60_exceptions R300). -/
def Obligations.StepRunsDecodedInstruction : Prop :=
  ∀ (s : State) (i : Instr) (p : Nat),
    effectiveMode s.cp0.status = .kernel → interruptTaken s.cp0.status s.sampled.cp0.cause = false →
    statusRe s.cp0.status = false → s.pc.toNat % 4 = 0 → translateAddress s.pc = some (physicalOf s.pc) →
    p = (physicalOf s.pc).toNat → coversAll s.physMem p 4 = true → coversAll s.programText p 4 = true →
    decodeBytes [s.mem.read p, s.mem.read (p + 1), s.mem.read (p + 2), s.mem.read (p + 3)] = .ok (i, []) →
    Executes s i ∧
    step s = mapNext (fun t => t.updateRandom.betweenSteps (Config.tickSchedule s.time)) (exec i s.sampled)

/-- 30_encoding R183: a fetched word that selects no row of the table is refused. -/
def Obligations.UnmodelledWordRefused : Prop :=
  ∀ (s : State) (w : Word32),
    effectiveMode s.cp0.status = .kernel → interruptTaken s.cp0.status s.sampled.cp0.cause = false → fetch s = .ok w →
    (∀ r ∈ opcodeRows, w &&& r.mask ≠ r.pattern) → step s = .refused .unmodelledEncoding

/-- 60_exceptions R324: the effective mode; R326: the refusal of every step outside kernel mode, which is a device of the model and
no behaviour of the chip (the spec's D13; log 19). -/
def Obligations.NonKernelRefused : Prop :=
  (∀ st : Word32,
    effectiveMode st =
      if st.getLsbD 1 || st.getLsbD 2 then .kernel
      else if st.extractLsb' 3 2 = 0b00#2 then .kernel
      else if st.extractLsb' 3 2 = 0b01#2 then .supervisor
      else if st.extractLsb' 3 2 = 0b10#2 then .user
      else .undefined) ∧
  ∀ s : State, effectiveMode s.cp0.status ≠ .kernel → step s = .refused .nonKernelMode

/-- 60_exceptions R300 clause 0, R308: every step works on the state with ExtIP(t) in Cause[14:10], where ExtIP is free (log 6); every
other bit of Cause and every other piece of state is as it was. -/
def Obligations.ExternalLinesSampled : Prop :=
  ∀ s : State,
    s.sampled.cp0.cause.extractLsb' 10 5 = Config.extIP s.time ∧
    s.sampled.cp0.cause &&& 0xFFFF83FF = s.cp0.cause &&& 0xFFFF83FF ∧
    s.sampled = { s with cp0 := { s.cp0 with cause := s.sampled.cp0.cause } } ∧
    step s = mapNext (fun t => t.betweenSteps (Config.tickSchedule s.time)) (process s.sampled)

/-- 60_exceptions R306: in kernel mode an interrupt is taken exactly when ie = 1, exl = 0, erl = 0 and an unmasked bit of Cause.ip
is set; the step is then the entry with code 0 and nothing else but the ticks. -/
def Obligations.InterruptEntry : Prop :=
  ∀ s : State,
    (TakesInterrupt s ↔ effectiveMode s.cp0.status = .kernel ∧ s.cp0.status.getLsbD 0 = true ∧ s.cp0.status.getLsbD 1 = false ∧
      s.cp0.status.getLsbD 2 = false ∧ s.cp0.status.extractLsb' 8 8 &&& s.sampled.cp0.cause.extractLsb' 8 8 ≠ 0) ∧
    (TakesInterrupt s →
      ∃ t, EntersException s.sampled t .interrupt ∧ step s = .next (t.betweenSteps (Config.tickSchedule s.time)))

-- Exceptions (60_exceptions sections 2, 4, 5).

/-- 60_exceptions R312, R315: the whole next-state function of an exception, with the codes of R304. VectorBase is the machine's
parameter (00_scope R8). -/
def Obligations.ExceptionEntry : Prop :=
  (∀ (s : State) (e : Exc), EntersException s (s.takeException e) e) ∧
  Exc.interrupt.code = 0 ∧ (∀ v, (Exc.addressErrorLoad v).code = 4) ∧ (∀ v, (Exc.addressErrorStore v).code = 5) ∧
  (∀ u, (Exc.coprocessorUnusable u).code = 11)

/-- 60_exceptions R320, R313: ERET after an entry made outside every level goes back to where the entry came from, the branch if it
was in a delay slot, with Status as it was. -/
def Obligations.ReturnUndoesEntry : Prop :=
  ∀ (s : State) (e : Exc), statusExl s.cp0.status = false → statusErl s.cp0.status = false →
    ∃ t, exec .eret (s.takeException e) = .next t ∧ t.pc = (if s.inDelay then s.pc - 4 else s.pc) ∧ t.npc = t.pc + 4 ∧
      t.inDelay = false ∧ t.cp0.status = s.cp0.status ∧ SameGprs s t ∧ SameMemory s t ∧ t.tlb = s.tlb

/-- 40_cp0_instructions R206: ERET, at either level; the load-linked bit is the one the chip keeps (10_state R100, log 26). -/
def Obligations.Eret : Prop :=
  decode (0x10#6 ++ 1#1 ++ 0#19 ++ 0x18#6) = .ok .eret ∧
  ∀ s : State, s.inDelay = false →
    (s.cp0.status.getLsbD 2 = true →
      ∃ t, exec .eret s = .next t ∧ t.pc = s.cp0.errorEPC ∧ t.npc = s.cp0.errorEPC + 4 ∧ t.inDelay = false ∧
        t.cp0 = { s.cp0 with status := s.cp0.status &&& ~~~(0x4#32) } ∧ t.llBit = false ∧ t.countHalf = s.countHalf ∧
        t.fpr = s.fpr ∧ t.tlb = s.tlb ∧ SameGprs s t ∧ SameMemory s t ∧ SameLaunch s t) ∧
    (s.cp0.status.getLsbD 2 = false →
      ∃ t, exec .eret s = .next t ∧ t.pc = s.cp0.epc ∧ t.npc = s.cp0.epc + 4 ∧ t.inDelay = false ∧
        t.cp0 = { s.cp0 with status := s.cp0.status &&& ~~~(0x2#32) } ∧ t.llBit = false ∧ t.countHalf = s.countHalf ∧
        t.fpr = s.fpr ∧ t.tlb = s.tlb ∧ SameGprs s t ∧ SameMemory s t ∧ SameLaunch s t)

-- Control transfer (41_control_transfer).

/-- 41_control_transfer R221: a branch, a jump or ERET in a delay slot is refused. -/
def Obligations.ControlTransferInSlotRefused : Prop :=
  ∀ (i : Instr) (s : State), isControlTransfer i = true → s.inDelay = true →
    exec i s = .refused .controlTransferInDelaySlot

/-- 41_control_transfer R222, R223: J and JAL. -/
def Obligations.Jumps : Prop :=
  ∀ (target : BitVec 26) (s : State), s.inDelay = false →
    decode (0x02#6 ++ target) = .ok (.j target) ∧ decode (0x03#6 ++ target) = .ok (.jal target) ∧
    (∃ t, exec (.j target) s = .next t ∧ BranchesTo s t ((s.pc + 4).extractLsb' 28 36 ++ target ++ 0#2) ∧ OnlyMovesPc s t) ∧
    (∃ t, exec (.jal target) s = .next t ∧ BranchesTo s t ((s.pc + 4).extractLsb' 28 36 ++ target ++ 0#2) ∧
      OnlyWritesGpr s t 31 (s.pc + 8))

/-- 41_control_transfer R224, R225: JR and JALR; the target is read before the link register is written. -/
def Obligations.JumpRegisters : Prop :=
  ∀ (rd rs : Reg) (s : State), s.inDelay = false →
    decode (0#6 ++ rs ++ 0#5 ++ 0#5 ++ 0#5 ++ 0x08#6) = .ok (.jr rs) ∧
    decode (0#6 ++ rs ++ 0#5 ++ rd ++ 0#5 ++ 0x09#6) = .ok (.jalr rd rs) ∧
    (∃ t, exec (.jr rs) s = .next t ∧ BranchesTo s t (s.readGpr rs) ∧ OnlyMovesPc s t) ∧
    (∃ t, exec (.jalr rd rs) s = .next t ∧ BranchesTo s t (s.readGpr rs) ∧ OnlyWritesGpr s t rd (s.pc + 8))

/-- 41_control_transfer R226, R227: BEQ and BNE compare all 64 bits. -/
def Obligations.Branches : Prop :=
  ∀ (rs rt : Reg) (imm : BitVec 16) (s : State), s.inDelay = false →
    decode (0x04#6 ++ rs ++ rt ++ imm) = .ok (.beq rs rt imm) ∧ decode (0x05#6 ++ rs ++ rt ++ imm) = .ok (.bne rs rt imm) ∧
    (∃ t, exec (.beq rs rt imm) s = .next t ∧ OnlyMovesPc s t ∧
      BranchesTo s t (if s.readGpr rs = s.readGpr rt then s.pc + 4 + (imm ++ 0#2).signExtend 64 else s.npc + 4)) ∧
    (∃ t, exec (.bne rs rt imm) s = .next t ∧ OnlyMovesPc s t ∧
      BranchesTo s t (if s.readGpr rs ≠ s.readGpr rt then s.pc + 4 + (imm ++ 0#2).signExtend 64 else s.npc + 4))

/-- 41_control_transfer R228, R229: BLTZAL and BGEZAL link whether or not they branch. -/
def Obligations.LinkBranches : Prop :=
  ∀ (rs : Reg) (imm : BitVec 16) (s : State), s.inDelay = false →
    decode (0x01#6 ++ rs ++ 0x10#5 ++ imm) = .ok (.bltzal rs imm) ∧
    decode (0x01#6 ++ rs ++ 0x11#5 ++ imm) = .ok (.bgezal rs imm) ∧
    (∃ t, exec (.bltzal rs imm) s = .next t ∧ OnlyWritesGpr s t 31 (s.pc + 8) ∧
      BranchesTo s t (if (s.readGpr rs).toInt < 0 then s.pc + 4 + (imm ++ 0#2).signExtend 64 else s.npc + 4)) ∧
    (∃ t, exec (.bgezal rs imm) s = .next t ∧ OnlyWritesGpr s t 31 (s.pc + 8) ∧
      BranchesTo s t (if 0 ≤ (s.readGpr rs).toInt then s.pc + 4 + (imm ++ 0#2).signExtend 64 else s.npc + 4))

/-- 41_control_transfer R230, R231: BLTZALL and BGEZALL link in both cases and skip the delay slot when not taken. -/
def Obligations.LikelyLinkBranches : Prop :=
  ∀ (rs : Reg) (imm : BitVec 16) (s : State), s.inDelay = false →
    decode (0x01#6 ++ rs ++ 0x12#5 ++ imm) = .ok (.bltzall rs imm) ∧
    decode (0x01#6 ++ rs ++ 0x13#5 ++ imm) = .ok (.bgezall rs imm) ∧
    (∃ t, exec (.bltzall rs imm) s = .next t ∧ OnlyWritesGpr s t 31 (s.pc + 8) ∧
      (if (s.readGpr rs).toInt < 0 then BranchesTo s t (s.pc + 4 + (imm ++ 0#2).signExtend 64) else SkipsSlot s t)) ∧
    (∃ t, exec (.bgezall rs imm) s = .next t ∧ OnlyWritesGpr s t 31 (s.pc + 8) ∧
      (if 0 ≤ (s.readGpr rs).toInt then BranchesTo s t (s.pc + 4 + (imm ++ 0#2).signExtend 64) else SkipsSlot s t))

-- Integer instructions (42_integer).

/-- 10_state R21: r0 reads 0 in every state and discards what is written to it. -/
def Obligations.ZeroRegister : Prop :=
  (∀ s : State, s.readGpr 0 = 0) ∧ (∀ (s : State) (v : Word), s.writeGpr 0 v = s) ∧
  (∀ (s : State) (r : Reg) (v : Word), r ≠ 0 → (s.writeGpr r v).readGpr r = v)

/-- 42_integer R245, R246, R249, R250: AND, OR, ANDI, ORI. -/
def Obligations.BitwiseOperations : Prop :=
  ∀ (rd rs rt : Reg) (imm : BitVec 16) (s : State),
    decode (0#6 ++ rs ++ rt ++ rd ++ 0#5 ++ 0x24#6) = .ok (.and rd rs rt) ∧
    decode (0#6 ++ rs ++ rt ++ rd ++ 0#5 ++ 0x25#6) = .ok (.or rd rs rt) ∧
    decode (0x0C#6 ++ rs ++ rt ++ imm) = .ok (.andi rt rs imm) ∧ decode (0x0D#6 ++ rs ++ rt ++ imm) = .ok (.ori rt rs imm) ∧
    CompletesWriting (.and rd rs rt) s rd (s.readGpr rs &&& s.readGpr rt) ∧
    CompletesWriting (.or rd rs rt) s rd (s.readGpr rs ||| s.readGpr rt) ∧
    CompletesWriting (.andi rt rs imm) s rt (s.readGpr rs &&& imm.setWidth 64) ∧
    CompletesWriting (.ori rt rs imm) s rt (s.readGpr rs ||| imm.setWidth 64)

/-- 42_integer R244, R248: DADDU and DADDIU, modulo 2^64. -/
def Obligations.DoublewordAdditions : Prop :=
  ∀ (rd rs rt : Reg) (imm : BitVec 16) (s : State),
    decode (0#6 ++ rs ++ rt ++ rd ++ 0#5 ++ 0x2D#6) = .ok (.daddu rd rs rt) ∧
    decode (0x19#6 ++ rs ++ rt ++ imm) = .ok (.daddiu rt rs imm) ∧
    CompletesWriting (.daddu rd rs rt) s rd (BitVec.ofNat 64 (((s.readGpr rs).toNat + (s.readGpr rt).toNat) % 2 ^ 64)) ∧
    CompletesWriting (.daddiu rt rs imm) s rt (BitVec.ofInt 64 ((s.readGpr rs).toInt + imm.toInt))

/-- 42_integer R242, R251: SLL and LUI; the result is the 32-bit value sign-extended. -/
def Obligations.ShiftAndUpper : Prop :=
  ∀ (rd rt : Reg) (sa : BitVec 5) (imm : BitVec 16) (s : State),
    decode (0#6 ++ 0#5 ++ rt ++ rd ++ sa ++ 0x00#6) = .ok (.sll rd rt sa) ∧
    decode (0x0F#6 ++ 0#5 ++ rt ++ imm) = .ok (.lui rt imm) ∧
    CompletesWriting (.sll rd rt sa) s rd
      ((BitVec.ofNat 32 ((s.readGpr rt).toNat % 2 ^ 32 * 2 ^ sa.toNat)).signExtend 64) ∧
    CompletesWriting (.lui rt imm) s rt ((imm ++ 0#16).signExtend 64)

/-- 42_integer R243, R247: ADDU and ADDIU on canonical operands: the sum modulo 2^32, sign-extended. -/
def Obligations.WordAdditions : Prop :=
  ∀ (rd rs rt : Reg) (imm : BitVec 16) (s : State), s.readGpr rs = ((s.readGpr rs).setWidth 32).signExtend 64 →
    decode (0#6 ++ rs ++ rt ++ rd ++ 0#5 ++ 0x21#6) = .ok (.addu rd rs rt) ∧
    decode (0x09#6 ++ rs ++ rt ++ imm) = .ok (.addiu rt rs imm) ∧
    (s.readGpr rt = ((s.readGpr rt).setWidth 32).signExtend 64 →
      CompletesWriting (.addu rd rs rt) s rd
        ((BitVec.ofNat 32 ((s.readGpr rs).toNat + (s.readGpr rt).toNat)).signExtend 64)) ∧
    CompletesWriting (.addiu rt rs imm) s rt ((BitVec.ofInt 32 ((s.readGpr rs).toInt + imm.toInt)).signExtend 64)

/-- ADDU and ADDIU complete on every operand, canonical or not, with the frame of the canonical case, and write a canonical 32-bit
value (42_integer R240). That they complete on a non-canonical operand, with a free 32-bit result, is the model's choice (log 13): the
spec's own model refuses there (R241). -/
def Obligations.WordAdditionsComplete : Prop :=
  ∀ (rd rs rt : Reg) (imm : BitVec 16) (s : State),
    (∃ v : Word32, CompletesWriting (.addu rd rs rt) s rd (v.signExtend 64)) ∧
      (∃ v : Word32, CompletesWriting (.addiu rt rs imm) s rt (v.signExtend 64))

-- Memory (20_memory) and the loads and stores (43_load_store).

/-- 20_memory R142, R143: the two unmapped segments are windows onto the low 512 MB; every other address is no address of the
model, at any access. -/
def Obligations.KernelSegments : Prop :=
  ∀ vaddr : Word,
    (0xFFFFFFFF80000000#64 ≤ vaddr ∧ vaddr ≤ 0xFFFFFFFFBFFFFFFF#64 →
      ∃ pa, translateAddress vaddr = some pa ∧ pa.toNat = vaddr.toNat % 2 ^ 29) ∧
    (vaddr < 0xFFFFFFFF80000000#64 ∨ 0xFFFFFFFFBFFFFFFF#64 < vaddr →
      translateAddress vaddr = none ∧
      ∀ (s : State) (w : Width) (v : Word), statusRe s.cp0.status = false → vaddr.toNat % w.bytes = 0 →
        memRead s vaddr w = .refuse .mappedAddress ∧ memWrite s vaddr w v = .refuse .mappedAddress)

/-- 43_load_store R260, R262, R263: LB and LBU. -/
def Obligations.LoadByte : Prop :=
  ∀ (rt base : Reg) (offset : BitVec 16) (s : State),
    decode (0x20#6 ++ base ++ rt ++ offset) = .ok (.lb rt base offset) ∧
    decode (0x24#6 ++ base ++ rt ++ offset) = .ok (.lbu rt base offset) ∧
    s.effectiveAddress base offset = BitVec.ofInt 64 ((s.readGpr base).toInt + offset.toInt) ∧
    (LoadReady s (s.effectiveAddress base offset) .byte →
      CompletesWriting (.lb rt base offset) s rt ((s.mem.read (s.dataAddress base offset)).signExtend 64) ∧
      CompletesWriting (.lbu rt base offset) s rt ((s.mem.read (s.dataAddress base offset)).setWidth 64))

/-- 43_load_store R264, R265: LH and LHU; the byte at the lower address is the more significant (20_memory R136); a misaligned
address raises Address Error, code 4, and does nothing else (R261, 20_memory R141). -/
def Obligations.LoadHalf : Prop :=
  ∀ (rt base : Reg) (offset : BitVec 16) (s : State) (a : Nat), a = s.dataAddress base offset →
    decode (0x21#6 ++ base ++ rt ++ offset) = .ok (.lh rt base offset) ∧
    decode (0x25#6 ++ base ++ rt ++ offset) = .ok (.lhu rt base offset) ∧
    (LoadReady s (s.effectiveAddress base offset) .half →
      CompletesWriting (.lh rt base offset) s rt ((s.mem.read a ++ s.mem.read (a + 1)).signExtend 64) ∧
      CompletesWriting (.lhu rt base offset) s rt ((s.mem.read a ++ s.mem.read (a + 1)).setWidth 64)) ∧
    (statusRe s.cp0.status = false → (s.effectiveAddress base offset).toNat % 2 ≠ 0 →
      ∀ i ∈ [Instr.lh rt base offset, .lhu rt base offset],
        ∃ t, exec i s = .next t ∧ EntersException s t (.addressErrorLoad (s.effectiveAddress base offset)))

/-- 43_load_store R266, R267: LW and LWU, and the Address Error of a misaligned address. -/
def Obligations.LoadWord : Prop :=
  ∀ (rt base : Reg) (offset : BitVec 16) (s : State) (a : Nat), a = s.dataAddress base offset →
    decode (0x23#6 ++ base ++ rt ++ offset) = .ok (.lw rt base offset) ∧
    decode (0x27#6 ++ base ++ rt ++ offset) = .ok (.lwu rt base offset) ∧
    (LoadReady s (s.effectiveAddress base offset) .word →
      CompletesWriting (.lw rt base offset) s rt
        ((s.mem.read a ++ s.mem.read (a + 1) ++ s.mem.read (a + 2) ++ s.mem.read (a + 3)).signExtend 64) ∧
      CompletesWriting (.lwu rt base offset) s rt
        ((s.mem.read a ++ s.mem.read (a + 1) ++ s.mem.read (a + 2) ++ s.mem.read (a + 3)).setWidth 64)) ∧
    (statusRe s.cp0.status = false → (s.effectiveAddress base offset).toNat % 4 ≠ 0 →
      ∀ i ∈ [Instr.lw rt base offset, .lwu rt base offset],
        ∃ t, exec i s = .next t ∧ EntersException s t (.addressErrorLoad (s.effectiveAddress base offset)))

/-- 43_load_store R268: LD, and the Address Error of a misaligned address. -/
def Obligations.LoadDoubleword : Prop :=
  ∀ (rt base : Reg) (offset : BitVec 16) (s : State) (a : Nat), a = s.dataAddress base offset →
    decode (0x37#6 ++ base ++ rt ++ offset) = .ok (.ld rt base offset) ∧
    (LoadReady s (s.effectiveAddress base offset) .dword →
      CompletesWriting (.ld rt base offset) s rt
        (s.mem.read a ++ s.mem.read (a + 1) ++ s.mem.read (a + 2) ++ s.mem.read (a + 3) ++
          s.mem.read (a + 4) ++ s.mem.read (a + 5) ++ s.mem.read (a + 6) ++ s.mem.read (a + 7))) ∧
    (statusRe s.cp0.status = false → (s.effectiveAddress base offset).toNat % 8 ≠ 0 →
      ∃ t, exec (.ld rt base offset) s = .next t ∧
        EntersException s t (.addressErrorLoad (s.effectiveAddress base offset)))

/-- 43_load_store R269 to R272: SB, SH, SW and SD store the low bytes of x[rt], the most significant first, and change no other
byte; a misaligned address raises Address Error, code 5, and nothing is stored. -/
def Obligations.Stores : Prop :=
  ∀ (rt base : Reg) (offset : BitVec 16) (s : State), s.mem.wf →
    decode (0x28#6 ++ base ++ rt ++ offset) = .ok (.sb rt base offset) ∧
    decode (0x29#6 ++ base ++ rt ++ offset) = .ok (.sh rt base offset) ∧
    decode (0x2B#6 ++ base ++ rt ++ offset) = .ok (.sw rt base offset) ∧
    decode (0x3F#6 ++ base ++ rt ++ offset) = .ok (.sd rt base offset) ∧
    (StoreReady s (s.effectiveAddress base offset) .byte →
      CompletesStoring (.sb rt base offset) s (s.dataAddress base offset) 1 (s.readGpr rt)) ∧
    (StoreReady s (s.effectiveAddress base offset) .half →
      CompletesStoring (.sh rt base offset) s (s.dataAddress base offset) 2 (s.readGpr rt)) ∧
    (StoreReady s (s.effectiveAddress base offset) .word →
      CompletesStoring (.sw rt base offset) s (s.dataAddress base offset) 4 (s.readGpr rt)) ∧
    (StoreReady s (s.effectiveAddress base offset) .dword →
      CompletesStoring (.sd rt base offset) s (s.dataAddress base offset) 8 (s.readGpr rt)) ∧
    (statusRe s.cp0.status = false → (s.effectiveAddress base offset).toNat % 2 ≠ 0 →
      ∃ t, exec (.sh rt base offset) s = .next t ∧
        EntersException s t (.addressErrorStore (s.effectiveAddress base offset))) ∧
    (statusRe s.cp0.status = false → (s.effectiveAddress base offset).toNat % 4 ≠ 0 →
      ∃ t, exec (.sw rt base offset) s = .next t ∧
        EntersException s t (.addressErrorStore (s.effectiveAddress base offset))) ∧
    (statusRe s.cp0.status = false → (s.effectiveAddress base offset).toNat % 8 ≠ 0 →
      ∃ t, exec (.sd rt base offset) s = .next t ∧
        EntersException s t (.addressErrorStore (s.effectiveAddress base offset)))

/-- 20_memory R140: a misaligned pc raises Address Error (load) with BadVAddr = pc, at the step that would fetch. Then come the update
of Random (10_state R37, 60_exceptions R300 clause 8) and the ticks (10_state R49). That a step which ends in an exception of its fetch
counts for Random is R37's own choice (D4); that the counter moves in draw mode too is the model's (log 8). -/
def Obligations.MisalignedFetch : Prop :=
  ∀ s : State, effectiveMode s.cp0.status = .kernel → interruptTaken s.cp0.status s.sampled.cp0.cause = false →
    statusRe s.cp0.status = false → s.pc.toNat % 4 ≠ 0 →
    ∃ t, EntersException s.sampled t (.addressErrorLoad s.pc) ∧
      step s = .next (t.updateRandom.betweenSteps (Config.tickSchedule s.time))

/-- Where a load or a store stops, and under what name: re = 1 (20_memory R137), an address outside kseg0 and kseg1 (R143), no
memory there (R144), program text (R154), an armed watchpoint (60_exceptions R332). The model's choices: that missing memory is a
fault and no refusal (log 17), that a watchpoint refuses (log 18), and that it is looked at last (log 34). -/
def Obligations.AccessStops : Prop :=
  ∀ (s : State) (vaddr : Word) (w : Width) (v : Word),
    (statusRe s.cp0.status = true → loadAccess s vaddr w = .refuse .reverseEndian ∧
      storeAccess s vaddr w v = .refuse .reverseEndian) ∧
    (statusRe s.cp0.status = false → vaddr.toNat % w.bytes = 0 →
      (translateAddress vaddr = none → loadAccess s vaddr w = .refuse .mappedAddress ∧
        storeAccess s vaddr w v = .refuse .mappedAddress) ∧
      (∀ pa, translateAddress vaddr = some pa →
        (coversAll s.physMem pa.toNat w.bytes = false → loadAccess s vaddr w = .fault .noSuchMemory ∧
          storeAccess s vaddr w v = .fault .noSuchMemory) ∧
        (coversAll s.physMem pa.toNat w.bytes = true →
          (watchHitsLoad s vaddr = true → loadAccess s vaddr w = .refuse .watchHit) ∧
          (touchesAny s.programText pa.toNat w.bytes = true → storeAccess s vaddr w v = .refuse .storeToProgramText) ∧
          (touchesAny s.programText pa.toNat w.bytes = false → watchHitsStore s vaddr = true →
            storeAccess s vaddr w v = .refuse .watchHit))))

/-- 20_memory R151, R155: a doubleword load returns what the store before it wrote, through either kernel segment: SD at one
address and LD at an address with the same physical address. -/
def Obligations.LoadAfterStore : Prop :=
  ∀ (s t : State) (rt base rt' base' : Reg) (offset offset' : BitVec 16), s.mem.wf →
    StoreReady s (s.effectiveAddress base offset) .dword → exec (.sd rt base offset) s = .next t →
    LoadReady t (t.effectiveAddress base' offset') .dword →
    (t.effectiveAddress base' offset').toNat % 2 ^ 29 = (s.effectiveAddress base offset).toNat % 2 ^ 29 →
    CompletesWriting (.ld rt' base' offset') t rt' (s.readGpr rt)

-- CP0 (40_cp0_instructions; 10_state section 4).

/-- 40_cp0_instructions R201, R202: MFC0 and DMFC0 complete for every CP0 number. With Wired above 31 a read of Random completes
too, the alternative of 10_state R40 (log 9). -/
def Obligations.MovesFromCp0 : Prop :=
  ∀ (rt rd : Reg) (s : State),
    decode (0x10#6 ++ 0x00#5 ++ rt ++ rd ++ 0#11) = .ok (.mfc0 rt rd) ∧
    decode (0x10#6 ++ 0x01#5 ++ rt ++ rd ++ 0#11) = .ok (.dmfc0 rt rd) ∧
    CompletesWriting (.mfc0 rt rd) s rt (((cp0Read s rd).setWidth 32).signExtend 64) ∧
    CompletesWriting (.dmfc0 rt rd) s rt (cp0Read s rd)

/-- 10_state R31: what each named register but Random reads: its stored value, whole where it is stored as 64 bits, in the low half
where it is sized 32 bits. -/
def Obligations.Cp0ReadsStored : Prop :=
  ∀ s : State,
    ((cp0Read s 0).setWidth 32 = s.cp0.index ∧ (cp0Read s 5).setWidth 32 = s.cp0.pageMask ∧
      (cp0Read s 6).setWidth 32 = s.cp0.wired ∧ (cp0Read s 9).setWidth 32 = s.cp0.count ∧
      (cp0Read s 11).setWidth 32 = s.cp0.compare ∧ (cp0Read s 12).setWidth 32 = s.cp0.status ∧
      (cp0Read s 13).setWidth 32 = s.cp0.cause ∧ (cp0Read s 15).setWidth 32 = s.cp0.prId ∧
      (cp0Read s 16).setWidth 32 = s.cp0.config ∧ (cp0Read s 17).setWidth 32 = s.cp0.llAddr ∧
      (cp0Read s 18).setWidth 32 = s.cp0.watchLo ∧ (cp0Read s 19).setWidth 32 = s.cp0.watchHi ∧
      (cp0Read s 26).setWidth 32 = s.cp0.parityError ∧ (cp0Read s 27).setWidth 32 = s.cp0.cacheError ∧
      (cp0Read s 28).setWidth 32 = s.cp0.tagLo ∧ (cp0Read s 29).setWidth 32 = s.cp0.tagHi) ∧
    (cp0Read s 2 = s.cp0.entryLo0 ∧ cp0Read s 3 = s.cp0.entryLo1 ∧ cp0Read s 4 = s.cp0.context ∧
      cp0Read s 8 = s.cp0.badVAddr ∧ cp0Read s 10 = s.cp0.entryHi ∧ cp0Read s 14 = s.cp0.epc ∧
      cp0Read s 20 = s.cp0.xContext ∧ cp0Read s 30 = s.cp0.errorEPC)

/-- 10_state R36, R38, R39: a read of Random gives a value from Wired to 31, bits 31:6 zero, in either mode; in exact mode the
counter's. With Wired above 31 it gives a value from 0 to 63: the model's choice (log 9), which R40 allows. -/
def Obligations.RandomRead : Prop :=
  ∀ (rt : Reg) (s : State),
    (RandomInRange s → (wiredField s.cp0).toNat ≤ 31 →
      ∃ v : Nat, (wiredField s.cp0).toNat ≤ v ∧ v ≤ 31 ∧
        (Config.randomMode = .exact → v = (s.cp0.random.extractLsb' 0 6).toNat) ∧
        CompletesWriting (.mfc0 rt 1) s rt (BitVec.ofNat 64 v) ∧ (cp0Read s 1).setWidth 32 = BitVec.ofNat 32 v) ∧
    (31 < (wiredField s.cp0).toNat →
      ∃ v : Nat, v < 64 ∧ CompletesWriting (.mfc0 rt 1) s rt (BitVec.ofNat 64 v) ∧
        (cp0Read s 1).setWidth 32 = BitVec.ofNat 32 v)

/-- 40_cp0_instructions R203, R204: MTC0 and DMTC0 complete for every CP0 number; their effect is CP0Write, with MTC0's value the
low half sign-extended. A write to Count also clears count_half (10_state R51). -/
def Obligations.MovesToCp0 : Prop :=
  ∀ (rt rd : Reg) (s : State),
    decode (0x10#6 ++ 0x04#5 ++ rt ++ rd ++ 0#11) = .ok (.mtc0 rt rd) ∧
    decode (0x10#6 ++ 0x05#5 ++ rt ++ rd ++ 0#11) = .ok (.dmtc0 rt rd) ∧
    (∃ t, exec (.mtc0 rt rd) s = .next t ∧ Advanced s t ∧
      OnlyWritesCp0 s t (s.cp0.write s.params rd (((s.readGpr rt).setWidth 32).signExtend 64)) (if rd = 9 then false else s.countHalf)) ∧
    (∃ t, exec (.dmtc0 rt rd) s = .next t ∧ Advanced s t ∧
      OnlyWritesCp0 s t (s.cp0.write s.params rd (s.readGpr rt)) (if rd = 9 then false else s.countHalf))

/-- 10_state R54: a write to Compare goes through WMask(11) and clears ip7, whatever it writes, and changes nothing else; with the
mask R54 gives, all ones, all 32 bits are stored. -/
def Obligations.CompareWrite : Prop :=
  ∀ (rt : Reg) (s : State),
    MovesLeave rt 11 s
      { s.cp0 with
        compare := (s.cp0.compare &&& ~~~s.params.wmask.compare) ||| ((s.readGpr rt).setWidth 32 &&& s.params.wmask.compare)
        cause := s.cp0.cause &&& 0xFFFF7FFF } s.countHalf ∧
    (s.params.wmask.compare = 0xFFFFFFFF →
      MovesLeave rt 11 s { s.cp0 with compare := (s.readGpr rt).setWidth 32, cause := s.cp0.cause &&& 0xFFFF7FFF } s.countHalf)

/-- 10_state R51: a write to Count goes through WMask(9) and clears count_half, and changes nothing else, ip7 included; with the mask
R51 suggests, all ones, all 32 bits are stored. -/
def Obligations.CountWrite : Prop :=
  ∀ (rt : Reg) (s : State),
    MovesLeave rt 9 s
      { s.cp0 with
        count := (s.cp0.count &&& ~~~s.params.wmask.count) ||| ((s.readGpr rt).setWidth 32 &&& s.params.wmask.count) } false ∧
    (s.params.wmask.count = 0xFFFFFFFF → MovesLeave rt 9 s { s.cp0 with count := (s.readGpr rt).setWidth 32 } false)

/-- 10_state R80: a write to Cause changes ip0 and ip1 and nothing else. -/
def Obligations.CauseWrite : Prop :=
  ∀ (rt : Reg) (s : State),
    MovesLeave rt 13 s
      { s.cp0 with cause := (s.cp0.cause &&& ~~~(0x300#32)) ||| ((s.readGpr rt).setWidth 32 &&& 0x300#32) } s.countHalf

/-- 10_state R73: a write to Status goes through WMask(12), of which the spec leaves bits 23, 21 and 19 as parameters and fixes the
other 29 at 1; it changes no other register. -/
def Obligations.StatusWrite : Prop :=
  ∀ (rt : Reg) (s : State),
    (∀ i : Nat, i < 32 →
      s.params.wmaskStatus.getLsbD i = if i = 23 ∨ i = 21 ∨ i = 19 then s.params.statusOpen.getLsbD i else true) ∧
    MovesLeave rt 12 s
      { s.cp0 with
        status := (s.cp0.status &&& ~~~s.params.wmaskStatus) ||| ((s.readGpr rt).setWidth 32 &&& s.params.wmaskStatus) }
      s.countHalf

/-- The registers no move changes: Random (10_state R36) and the unnamed numbers (R34); BadVAddr (R47), PRId (R82), Cache Error (R90)
and TagHi (R92) on a machine whose mask for the register is the 0 its rule gives. -/
def Obligations.ReadOnlyCp0 : Prop :=
  ∀ (rt rd : Reg) (s : State),
    (rd ∈ [1, 7, 21, 22, 23, 24, 25, 31] → MovesLeave rt rd s s.cp0 s.countHalf) ∧
    (s.params.wmask.badVAddr = 0 → MovesLeave rt 8 s s.cp0 s.countHalf) ∧
    (s.params.wmask.prId = 0 → MovesLeave rt 15 s s.cp0 s.countHalf) ∧
    (s.params.wmask.cacheError = 0 → MovesLeave rt 27 s s.cp0 s.countHalf) ∧
    (s.params.wmask.tagHi = 0 → MovesLeave rt 29 s s.cp0 s.countHalf)

/-- CP0Write through WMask(n), whatever the machine's masks are (10_state R32 and each register's rule; Count and Compare, which
have side effects, in their own statements): the masked bits of the value, the other bits as they were, and no other register. The
masks State.reset starts from are the values the spec suggests (log 14), Config's without BE (log 15). -/
def Obligations.MaskedCp0Writes : Prop :=
  (∀ (c : Cp0) (p : Params) (v : Word),
    c.write p 0 v = { c with index := (c.index &&& ~~~p.wmask.index) ||| (v.setWidth 32 &&& p.wmask.index) } ∧
    c.write p 2 v = { c with entryLo0 := (c.entryLo0 &&& ~~~p.wmask.entryLo0) ||| (v &&& p.wmask.entryLo0) } ∧
    c.write p 3 v = { c with entryLo1 := (c.entryLo1 &&& ~~~p.wmask.entryLo1) ||| (v &&& p.wmask.entryLo1) } ∧
    c.write p 4 v = { c with context := (c.context &&& ~~~p.wmask.context) ||| (v &&& p.wmask.context) } ∧
    c.write p 5 v = { c with pageMask := (c.pageMask &&& ~~~p.wmask.pageMask) ||| (v.setWidth 32 &&& p.wmask.pageMask) } ∧
    c.write p 6 v = { c with wired := (c.wired &&& ~~~p.wmask.wired) ||| (v.setWidth 32 &&& p.wmask.wired) } ∧
    c.write p 8 v = { c with badVAddr := (c.badVAddr &&& ~~~p.wmask.badVAddr) ||| (v &&& p.wmask.badVAddr) } ∧
    c.write p 10 v = { c with entryHi := (c.entryHi &&& ~~~p.wmask.entryHi) ||| (v &&& p.wmask.entryHi) } ∧
    c.write p 14 v = { c with epc := (c.epc &&& ~~~p.wmask.epc) ||| (v &&& p.wmask.epc) } ∧
    c.write p 15 v = { c with prId := (c.prId &&& ~~~p.wmask.prId) ||| (v.setWidth 32 &&& p.wmask.prId) } ∧
    c.write p 16 v = { c with config := (c.config &&& ~~~p.wmask.config) ||| (v.setWidth 32 &&& p.wmask.config) } ∧
    c.write p 17 v = { c with llAddr := (c.llAddr &&& ~~~p.wmask.llAddr) ||| (v.setWidth 32 &&& p.wmask.llAddr) } ∧
    c.write p 18 v = { c with watchLo := (c.watchLo &&& ~~~p.wmask.watchLo) ||| (v.setWidth 32 &&& p.wmask.watchLo) } ∧
    c.write p 19 v = { c with watchHi := (c.watchHi &&& ~~~p.wmask.watchHi) ||| (v.setWidth 32 &&& p.wmask.watchHi) } ∧
    c.write p 20 v = { c with xContext := (c.xContext &&& ~~~p.wmask.xContext) ||| (v &&& p.wmask.xContext) } ∧
    c.write p 26 v = { c with parityError := (c.parityError &&& ~~~p.wmask.parityError) ||| (v.setWidth 32 &&& p.wmask.parityError) } ∧
    c.write p 27 v = { c with cacheError := (c.cacheError &&& ~~~p.wmask.cacheError) ||| (v.setWidth 32 &&& p.wmask.cacheError) } ∧
    c.write p 28 v = { c with tagLo := (c.tagLo &&& ~~~p.wmask.tagLo) ||| (v.setWidth 32 &&& p.wmask.tagLo) } ∧
    c.write p 29 v = { c with tagHi := (c.tagHi &&& ~~~p.wmask.tagHi) ||| (v.setWidth 32 &&& p.wmask.tagHi) } ∧
    c.write p 30 v = { c with errorEPC := (c.errorEPC &&& ~~~p.wmask.errorEPC) ||| (v &&& p.wmask.errorEPC) }) ∧
  State.reset.params.wmask =
    { index := 0x8000003F, entryLo0 := 0x3FFFFFFF, entryLo1 := 0x3FFFFFFF, context := 0xFFFFFFFFFF800000,
      pageMask := 0x01FFE000, wired := 0x3F, badVAddr := 0, count := 0xFFFFFFFF, entryHi := 0xC00000FFFFFFE0FF,
      compare := 0xFFFFFFFF, epc := 0xFFFFFFFFFFFFFFFF, prId := 0, config := 0x0F00000F, llAddr := 0xFFFFFFFF,
      watchLo := 0xFFFFFFFB, watchHi := 0xF, xContext := 0xFFFFFFFE00000000, parityError := 0xFF, cacheError := 0,
      tagLo := 0x0FFFFFC0, tagHi := 0, errorEPC := 0xFFFFFFFFFFFFFFFF }

/-- 40_cp0_instructions R205 with 10_state R38, R39: TLBWR writes the images of the four registers into one entry from Wired to 31,
in exact mode the one Random names, and changes nothing else. With Wired above 31 its index is a value from 0 to 63: below 32 that
entry is written, from 32 on the step is refused. That is the model's choice (log 9), which 10_state R40 allows in place of a
refusal of both. -/
def Obligations.Tlbwr : Prop :=
  decode (0x10#6 ++ 1#1 ++ 0#19 ++ 0x06#6) = .ok .tlbwr ∧
  ∀ s : State,
    (RandomInRange s → (wiredField s.cp0).toNat ≤ 31 →
      ∃ (t : State) (i : Fin 32), exec .tlbwr s = .next t ∧ (wiredField s.cp0).toNat ≤ i.val ∧
        (Config.randomMode = .exact → i.val = (s.cp0.random.extractLsb' 0 6).toNat) ∧ WritesTlbEntry s t i) ∧
    (31 < (wiredField s.cp0).toNat →
      ∃ v : Nat, v < 64 ∧ (∀ h : v < 32, ∃ t, exec .tlbwr s = .next t ∧ WritesTlbEntry s t ⟨v, h⟩) ∧
        (32 ≤ v → exec .tlbwr s = .refused .wiredOutOfRange))

-- The CP1 class (44_cp1_class).

/-- 44_cp1_class R280 to R286: with cu1 = 0 every word of the class raises Coprocessor Unusable with ce = 1, whatever its operands;
with cu1 = 1 it is refused. -/
def Obligations.Cp1Class : Prop :=
  ∀ (cofun : BitVec 26) (ft base : Reg) (offset : BitVec 16) (s : State),
    decode (0x11#6 ++ cofun) = .ok (.cop1 cofun) ∧ decode (0x31#6 ++ base ++ ft ++ offset) = .ok (.lwc1 ft base offset) ∧
    decode (0x35#6 ++ base ++ ft ++ offset) = .ok (.ldc1 ft base offset) ∧
    decode (0x39#6 ++ base ++ ft ++ offset) = .ok (.swc1 ft base offset) ∧
    decode (0x3D#6 ++ base ++ ft ++ offset) = .ok (.sdc1 ft base offset) ∧
    ∀ i ∈ [Instr.cop1 cofun, .lwc1 ft base offset, .ldc1 ft base offset, .swc1 ft base offset, .sdc1 ft base offset],
      (s.cp0.status.getLsbD 29 = false → ∃ t, exec i s = .next t ∧ EntersException s t (.coprocessorUnusable 1)) ∧
      (s.cp0.status.getLsbD 29 = true → exec i s = .refused .cp1NotModelled)

-- The clock and Random (10_state R37, R48 to R55).

/-- 10_state R49: one tick, exactly. -/
def Obligations.Tick : Prop :=
  ∀ s : State,
    (s.countHalf = true → s.ticks 1 =
      { s with
        countHalf := false
        cp0 := { s.cp0 with
          count := s.cp0.count + 1
          cause := if s.cp0.count + 1 = s.cp0.compare then s.cp0.cause ||| 0x8000 else s.cp0.cause } }) ∧
    (s.countHalf = false → s.ticks 1 = { s with countHalf := true })

/-- Count with count_half below it is one 33-bit counter of ticks: 10_state R50, which the spec derives from R49. -/
def Obligations.CountTicks : Prop :=
  ∀ (s : State) (n : Nat),
    (s.ticks n).cp0.count ++ BitVec.ofBool (s.ticks n).countHalf =
      (s.cp0.count ++ BitVec.ofBool s.countHalf) + BitVec.ofNat 33 n

/-- 10_state R53, R55(a), (b): after n ticks ip7 is set exactly if it was, or if one of the increments of Count made it equal to
Compare; equality that no increment made sets nothing. -/
def Obligations.TimerInterrupt : Prop :=
  ∀ (s : State) (n : Nat),
    (s.ticks n).cp0.cause.getLsbD 15 = true ↔
      s.cp0.cause.getLsbD 15 = true ∨
      ∃ k : Nat, 1 ≤ k ∧ k ≤ (n + s.countHalf.toNat) / 2 ∧ s.cp0.count + BitVec.ofNat 32 k = s.cp0.compare

/-- The update of 10_state R37 at the end of every step that executes or fetches, with the value Wired has after the instruction, and
none at an interrupt; bits 31:6 are never touched. Where in the step it falls is what R37 calls the spec's choice (D4); that the
counter is kept in draw mode too, where nothing reads it, is the model's (log 8). -/
def Obligations.RandomUpdate : Prop :=
  ∀ s t : State, step s = .next t →
    (TakesInterrupt s → t.cp0.random = s.cp0.random) ∧
    (¬ TakesInterrupt s → t.cp0.random.extractLsb' 6 26 = s.cp0.random.extractLsb' 6 26 ∧
      randomField t.cp0 =
        if (randomField s.cp0).toNat ≤ (wiredField t.cp0).toNat then 31 else randomField s.cp0 - 1)

-- What every step keeps.

/-- Every step keeps memory in its canonical form. -/
def Obligations.MemoryCanonicalKept : Prop :=
  ∀ s t : State, s.mem.wf → step s = .next t → t.mem.wf

/-- The range of Random is kept by every step: 10_state R38, whose 'in every state reachable ...' the spec derives from R37. -/
def Obligations.RandomRangeKept : Prop :=
  ∀ s t : State, RandomInRange s → step s = .next t → RandomInRange t

/-- 10_state R75: the always-zero bits of Cause stay zero. -/
def Obligations.CauseUnusedKept : Prop :=
  ∀ s t : State, CauseUnusedZero s → step s = .next t → CauseUnusedZero t

/-- Every CP0 register that only moves load keeps Fixed(n) in the bits WMask(n) withholds, PRId thereby PRIdValue, whatever these
parameters are (00_scope R8, 10_state R32); Config.BE, where the mask withholds it, stays 1 (20_memory R137, log 15). -/
def Obligations.ReservedBitsKept : Prop :=
  ∀ s t : State, ReservedBitsFixed s → step s = .next t → ReservedBitsFixed t

/-- 20_memory R154, 00_scope R16, 10_state R96: no step changes a byte of the program text, the launch parameters or the
floating-point registers. -/
def Obligations.LaunchKept : Prop :=
  ∀ s t : State, step s = .next t →
    t.physMem = s.physMem ∧ t.programText = s.programText ∧ t.params = s.params ∧ t.fpr = s.fpr ∧ t.time = s.time + 1 ∧
    ∀ a : Nat, inRegions s.programText a = true → t.mem.read a = s.mem.read a

/-- Who may change what: the TLB only TLBWR (20_memory R156); Parity Error (10_state R89), Wired, ErrorEPC, Cache Error, TagHi and
PRId only a move to them, the last three nothing at all where their masks are the 0 their rules give (R82, R90, R92; log 14); Status
outside exl and erl only a move to it (R57, R60); Compare only a move to it, and ip7 once set is cleared by nothing else (R54,
R55(a)). -/
def Obligations.SystemStateChangers : Prop :=
  ∀ s t : State, step s = .next t →
    (¬ Executes s .tlbwr → t.tlb = s.tlb) ∧
    (¬ MovesTo s 26 → t.cp0.parityError = s.cp0.parityError) ∧
    (¬ MovesTo s 27 ∨ s.params.wmask.cacheError = 0 → t.cp0.cacheError = s.cp0.cacheError) ∧
    (¬ MovesTo s 29 ∨ s.params.wmask.tagHi = 0 → t.cp0.tagHi = s.cp0.tagHi) ∧
    (¬ MovesTo s 15 ∨ s.params.wmask.prId = 0 → t.cp0.prId = s.cp0.prId) ∧
    (¬ MovesTo s 12 → t.cp0.status &&& 0xFFFFFFF9 = s.cp0.status &&& 0xFFFFFFF9) ∧
    (¬ MovesTo s 11 → t.cp0.compare = s.cp0.compare ∧ (s.cp0.cause.getLsbD 15 = true → t.cp0.cause.getLsbD 15 = true)) ∧
    (¬ MovesTo s 6 → t.cp0.wired = s.cp0.wired) ∧
    (¬ MovesTo s 30 → t.cp0.errorEPC = s.cp0.errorEPC)

/-- 60_exceptions R305: the code field changes only to one of the four codes the model raises. -/
def Obligations.ExceptionCodes : Prop :=
  ∀ s t : State, step s = .next t →
    causeExcCode t.cp0.cause = causeExcCode s.cp0.cause ∨ causeExcCode t.cp0.cause ∈ [0#5, 4#5, 5#5, 11#5]

/-- 60_exceptions R325: kernel mode is left only by ERET or by a move to Status. -/
def Obligations.KernelModeLeft : Prop :=
  ∀ s t : State, step s = .next t → effectiveMode t.cp0.status ≠ .kernel → Executes s .eret ∨ MovesTo s 12

/-- 60_exceptions R309: a software interrupt request raised by MTC0 while it is enabled makes the next step an interrupt entry,
with EPC the address of the instruction after the MTC0. -/
def Obligations.SoftwareInterrupt : Prop :=
  ∀ (s : State) (rt : Reg) (k : Nat), Executes s (.mtc0 rt 13) → k = 8 ∨ k = 9 →
    statusIe s.cp0.status = true → statusExl s.cp0.status = false → statusErl s.cp0.status = false →
    s.cp0.status.getLsbD k = true → (s.readGpr rt).getLsbD k = true →
    ∃ t u, step s = .next t ∧ TakesInterrupt t ∧ step t = .next u ∧ u.cp0.epc = s.npc ∧ causeBd u.cp0.cause = false ∧
      causeExcCode u.cp0.cause = 0 ∧ statusExl u.cp0.status = true

-- Reset.

/-- Reset: in every state that 10_state R101 allows after reset, for any ResetState and parameters, the mode is kernel, no interrupt is
taken (70_reset R353) and the invariants of Random, Cause and the fixed bits hold. State.reset is such a state, with the suggested
parameters (log 16 for its vectors), nothing in memory, and Random and Wired as R101 has them. -/
def Obligations.ResetMachine : Prop :=
  (∀ s : State, AfterReset s →
    effectiveMode s.cp0.status = .kernel ∧ (∀ c : Word32, interruptTaken s.cp0.status c = false) ∧
    RandomInRange s ∧ CauseUnusedZero s ∧ ReservedBitsFixed s) ∧
  AfterReset State.reset ∧ State.reset.mem.wf ∧
  State.reset.pc = 0xFFFFFFFFBFC00000 ∧ State.reset.npc = 0xFFFFFFFFBFC00004 ∧
  State.reset.params.generalVector true = 0xFFFFFFFFBFC00380 ∧ State.reset.params.generalVector false = 0xFFFFFFFF80000180

end
end

