-- ==== Sys2Proof/Laws/Bits.lean ====
section
/-! SUPPORT. Lemmas about bit fields: what `insertField` and `maskedWrite` do to each bit, and the fields of Status and Cause
after each of their updates. -/

namespace Sys2Proof.Machine

theorem getLsbD_insertField {n len : Nat} (v : BitVec n) (lo : Nat) (x : BitVec len) (h : lo + len ≤ n) (i : Nat) :
    (insertField v lo x).getLsbD i = if lo ≤ i ∧ i < lo + len then x.getLsbD (i - lo) else v.getLsbD i := by
  simp only [insertField, BitVec.getLsbD_or, BitVec.getLsbD_and, BitVec.getLsbD_not, BitVec.getLsbD_shiftLeft,
    BitVec.getLsbD_setWidth, BitVec.getLsbD_allOnes]
  by_cases hi : i < n
  · by_cases h1 : i < lo
    · simp [hi, h1, Nat.not_le.mpr h1]
    · have hl : lo ≤ i := Nat.not_lt.mp h1
      have hn : i - lo < n := by omega
      by_cases h2 : i < lo + len
      · have h3 : i - lo < len := by omega
        simp [hi, h1, hl, h2, h3, hn]
      · have h3 : ¬ (i - lo < len) := by omega
        simp [hi, h1, h2, h3, BitVec.getLsbD_of_ge x (i - lo) (by omega)]
  · have : ¬ (lo ≤ i ∧ i < lo + len) := by omega
    simp [hi, this, BitVec.getLsbD_of_ge v i (by omega)]

/-- A bit outside the field written. -/
theorem getLsbD_insertField_of_out {n len : Nat} (v : BitVec n) (lo : Nat) (x : BitVec len) (h : lo + len ≤ n) (i : Nat)
    (ho : i < lo ∨ lo + len ≤ i) : (insertField v lo x).getLsbD i = v.getLsbD i := by
  rw [getLsbD_insertField v lo x h, if_neg (by omega)]

/-- The one bit written. -/
theorem getLsbD_insertField_bit {n : Nat} (v : BitVec n) (lo : Nat) (b : Bool) (h : lo + 1 ≤ n) :
    (insertField v lo (bit1 b)).getLsbD lo = b := by
  rw [getLsbD_insertField v lo _ h, if_pos (by omega)]
  cases b <;> simp [bit1]

/-- Reading back the field that was written. -/
theorem extract_insertField {n len : Nat} (v : BitVec n) (lo : Nat) (x : BitVec len) (h : lo + len ≤ n) :
    (insertField v lo x).extractLsb' lo len = x := by
  apply BitVec.eq_of_getLsbD_eq
  intro i hi
  have h1 : lo ≤ lo + i ∧ lo + i < lo + len := by omega
  simp [getLsbD_insertField v lo x h, hi]

/-- Reading a field that lies outside the one written. -/
theorem extract_insertField_of_disjoint {n len len' : Nat} (v : BitVec n) (lo lo' : Nat) (x : BitVec len) (h : lo + len ≤ n)
    (hd : lo' + len' ≤ lo ∨ lo + len ≤ lo') : (insertField v lo x).extractLsb' lo' len' = v.extractLsb' lo' len' := by
  apply BitVec.eq_of_getLsbD_eq
  intro i hi
  have h1 : ¬ (lo ≤ lo' + i ∧ lo' + i < lo + len) := by omega
  simp [BitVec.getLsbD_extractLsb', getLsbD_insertField v lo x h, h1]

/-- A field written with the value it has changes nothing. -/
theorem insertField_extract {n len : Nat} (v : BitVec n) (lo : Nat) (h : lo + len ≤ n) :
    insertField v lo (v.extractLsb' lo len) = v := by
  apply BitVec.eq_of_getLsbD_eq
  intro i _
  rw [getLsbD_insertField v lo _ h]
  split
  · next hr => simp [show i - lo < len by omega, show lo + (i - lo) = i by omega]
  · rfl

theorem getLsbD_maskedWrite {n : Nat} (old new mask : BitVec n) (i : Nat) :
    (maskedWrite old new mask).getLsbD i = if mask.getLsbD i then new.getLsbD i else old.getLsbD i := by
  simp only [maskedWrite, BitVec.getLsbD_or, BitVec.getLsbD_and, BitVec.getLsbD_not]
  by_cases hi : i < n
  · cases mask.getLsbD i <;> simp [hi]
  · simp [BitVec.getLsbD_of_ge _ i (Nat.not_lt.mp hi)]

/-- The bits a mask withholds keep their value. -/
theorem maskedWrite_and_of_disjoint {n : Nat} (old new mask k : BitVec n) (h : mask &&& k = 0) :
    maskedWrite old new mask &&& k = old &&& k := by
  apply BitVec.eq_of_getLsbD_eq
  intro i _
  have hb : (mask &&& k).getLsbD i = false := by rw [h]; simp
  rw [BitVec.getLsbD_and] at hb
  rw [BitVec.getLsbD_and, BitVec.getLsbD_and, getLsbD_maskedWrite]
  cases hk : k.getLsbD i <;> simp_all

/-- A masked word keeps its value when the field written lies outside the mask. -/
theorem insertField_and_of_disjoint {n len : Nat} (v : BitVec n) (lo : Nat) (x : BitVec len) (k : BitVec n) (h : lo + len ≤ n)
    (hk : k.extractLsb' lo len = 0) : insertField v lo x &&& k = v &&& k := by
  apply BitVec.eq_of_getLsbD_eq
  intro i _
  rw [BitVec.getLsbD_and, BitVec.getLsbD_and, getLsbD_insertField v lo x h]
  split
  · next hr =>
    have : (k.extractLsb' lo len).getLsbD (i - lo) = false := by rw [hk]; simp
    rw [BitVec.getLsbD_extractLsb', show lo + (i - lo) = i by omega] at this
    simp only [show i - lo < len by omega, decide_true, Bool.true_and] at this
    simp [this]
  · rfl

-- Status: exl and erl written.

@[simp] theorem statusExl_withExl (st : Word32) (b : Bool) : statusExl (withExl st b) = b :=
  getLsbD_insertField_bit st 1 b (by omega)

@[simp] theorem statusErl_withExl (st : Word32) (b : Bool) : statusErl (withExl st b) = statusErl st :=
  getLsbD_insertField_of_out st 1 (bit1 b) (by omega) 2 (by omega)

@[simp] theorem statusErl_withErl (st : Word32) (b : Bool) : statusErl (withErl st b) = b :=
  getLsbD_insertField_bit st 2 b (by omega)

@[simp] theorem statusExl_withErl (st : Word32) (b : Bool) : statusExl (withErl st b) = statusExl st :=
  getLsbD_insertField_of_out st 2 (bit1 b) (by omega) 1 (by omega)

@[simp] theorem statusKsu_withExl (st : Word32) (b : Bool) : statusKsu (withExl st b) = statusKsu st :=
  extract_insertField_of_disjoint st 1 3 (bit1 b) (by omega) (by omega)

@[simp] theorem statusKsu_withErl (st : Word32) (b : Bool) : statusKsu (withErl st b) = statusKsu st :=
  extract_insertField_of_disjoint st 2 3 (bit1 b) (by omega) (by omega)

/-- Every bit of Status but exl is kept by a write of exl. -/
theorem getLsbD_withExl (st : Word32) (b : Bool) (i : Nat) : (withExl st b).getLsbD i = if i = 1 then b else st.getLsbD i := by
  by_cases h : i = 1
  · rw [if_pos h, h, withExl, getLsbD_insertField_bit st 1 b (by omega)]
  · rw [if_neg h, withExl, getLsbD_insertField_of_out st 1 (bit1 b) (by omega) i (by omega)]

/-- Every bit of Status but erl is kept by a write of erl. -/
theorem getLsbD_withErl (st : Word32) (b : Bool) (i : Nat) : (withErl st b).getLsbD i = if i = 2 then b else st.getLsbD i := by
  by_cases h : i = 2
  · rw [if_pos h, h, withErl, getLsbD_insertField_bit st 2 b (by omega)]
  · rw [if_neg h, withErl, getLsbD_insertField_of_out st 2 (bit1 b) (by omega) i (by omega)]

-- Cause: each field after each write.

@[simp] theorem causeExcCode_withExcCode (c : Word32) (x : BitVec 5) : causeExcCode (withExcCode c x) = x :=
  extract_insertField c 2 x (by omega)
@[simp] theorem causeExcCode_withCe (c : Word32) (x : BitVec 2) : causeExcCode (withCe c x) = causeExcCode c :=
  extract_insertField_of_disjoint c 28 2 x (by omega) (by omega)
@[simp] theorem causeExcCode_withBd (c : Word32) (b : Bool) : causeExcCode (withBd c b) = causeExcCode c :=
  extract_insertField_of_disjoint c 31 2 (bit1 b) (by omega) (by omega)
@[simp] theorem causeExcCode_withIp7 (c : Word32) (b : Bool) : causeExcCode (withIp7 c b) = causeExcCode c :=
  extract_insertField_of_disjoint c 15 2 (bit1 b) (by omega) (by omega)
@[simp] theorem causeExcCode_withLines (c : Word32) (x : BitVec 5) : causeExcCode (withLines c x) = causeExcCode c :=
  extract_insertField_of_disjoint c 10 2 x (by omega) (by omega)

@[simp] theorem causeCe_withCe (c : Word32) (x : BitVec 2) : causeCe (withCe c x) = x := extract_insertField c 28 x (by omega)
@[simp] theorem causeCe_withIp7 (c : Word32) (b : Bool) : causeCe (withIp7 c b) = causeCe c :=
  extract_insertField_of_disjoint c 15 28 (bit1 b) (by omega) (by omega)
@[simp] theorem causeCe_withLines (c : Word32) (x : BitVec 5) : causeCe (withLines c x) = causeCe c :=
  extract_insertField_of_disjoint c 10 28 x (by omega) (by omega)

@[simp] theorem causeIp_withExcCode (c : Word32) (x : BitVec 5) : causeIp (withExcCode c x) = causeIp c :=
  extract_insertField_of_disjoint c 2 8 x (by omega) (by omega)
@[simp] theorem causeIp_withCe (c : Word32) (x : BitVec 2) : causeIp (withCe c x) = causeIp c :=
  extract_insertField_of_disjoint c 28 8 x (by omega) (by omega)
@[simp] theorem causeIp_withBd (c : Word32) (b : Bool) : causeIp (withBd c b) = causeIp c :=
  extract_insertField_of_disjoint c 31 8 (bit1 b) (by omega) (by omega)

@[simp] theorem causeIp7_withIp7 (c : Word32) (b : Bool) : causeIp7 (withIp7 c b) = b :=
  getLsbD_insertField_bit c 15 b (by omega)
@[simp] theorem causeIp7_withExcCode (c : Word32) (x : BitVec 5) : causeIp7 (withExcCode c x) = causeIp7 c :=
  getLsbD_insertField_of_out c 2 x (by omega) 15 (by omega)
@[simp] theorem causeIp7_withCe (c : Word32) (x : BitVec 2) : causeIp7 (withCe c x) = causeIp7 c :=
  getLsbD_insertField_of_out c 28 x (by omega) 15 (by omega)
@[simp] theorem causeIp7_withBd (c : Word32) (b : Bool) : causeIp7 (withBd c b) = causeIp7 c :=
  getLsbD_insertField_of_out c 31 (bit1 b) (by omega) 15 (by omega)
@[simp] theorem causeIp7_withLines (c : Word32) (x : BitVec 5) : causeIp7 (withLines c x) = causeIp7 c :=
  getLsbD_insertField_of_out c 10 x (by omega) 15 (by omega)

@[simp] theorem causeBd_withBd (c : Word32) (b : Bool) : causeBd (withBd c b) = b :=
  getLsbD_insertField_bit c 31 b (by omega)
@[simp] theorem causeBd_withExcCode (c : Word32) (x : BitVec 5) : causeBd (withExcCode c x) = causeBd c :=
  getLsbD_insertField_of_out c 2 x (by omega) 31 (by omega)
@[simp] theorem causeBd_withCe (c : Word32) (x : BitVec 2) : causeBd (withCe c x) = causeBd c :=
  getLsbD_insertField_of_out c 28 x (by omega) 31 (by omega)

/-- A field of Cause written keeps the always-zero bits 1:0, 7, 27:16 and 30 (10_state R75). -/
theorem withExcCode_unused (c : Word32) (x : BitVec 5) : withExcCode c x &&& 0x4FFF0083 = c &&& 0x4FFF0083 :=
  insertField_and_of_disjoint c 2 x _ (by omega) (by decide)
theorem withLines_unused (c : Word32) (x : BitVec 5) : withLines c x &&& 0x4FFF0083 = c &&& 0x4FFF0083 :=
  insertField_and_of_disjoint c 10 x _ (by omega) (by decide)
theorem withCe_unused (c : Word32) (x : BitVec 2) : withCe c x &&& 0x4FFF0083 = c &&& 0x4FFF0083 :=
  insertField_and_of_disjoint c 28 x _ (by omega) (by decide)
theorem withIp7_unused (c : Word32) (b : Bool) : withIp7 c b &&& 0x4FFF0083 = c &&& 0x4FFF0083 :=
  insertField_and_of_disjoint c 15 (bit1 b) _ (by omega) (by decide)
theorem withBd_unused (c : Word32) (b : Bool) : withBd c b &&& 0x4FFF0083 = c &&& 0x4FFF0083 :=
  insertField_and_of_disjoint c 31 (bit1 b) _ (by omega) (by decide)

/-- A mask of 0 keeps the register. -/
@[simp] theorem maskedWrite_zero {w : Nat} (r v : BitVec w) : maskedWrite r v 0#w = r := by
  apply BitVec.eq_of_getLsbD_eq
  intro i hi
  rw [getLsbD_maskedWrite, if_neg (by simp)]

end Sys2Proof.Machine
end

