-- ==== Sys2Proof/Laws/Encoding.lean ====
section
/-! SUPPORT. The formats of the encoder bit by bit: each under the masks of the opcode table, and each of its fields. -/

namespace Sys2Proof

-- Under the masks (30_encoding R178 to R181).

theorem encodeI_and_FC000000 (op : BitVec 6) (rs rt : Reg) (imm : BitVec 16) :
    encodeI op rs rt imm &&& (0xFC000000 : Word32) = op ++ 0#26 := by
  apply BitVec.eq_of_getLsbD_eq
  intro i hi
  simp only [encodeI, BitVec.getLsbD_and, BitVec.getLsbD_append]
  interval_cases i <;> simp

theorem encodeI_and_FC1F0000 (op : BitVec 6) (rs rt : Reg) (imm : BitVec 16) :
    encodeI op rs rt imm &&& (0xFC1F0000 : Word32) = op ++ 0#5 ++ rt ++ 0#16 := by
  apply BitVec.eq_of_getLsbD_eq
  intro i hi
  simp only [encodeI, BitVec.getLsbD_and, BitVec.getLsbD_append]
  interval_cases i <;> simp

theorem encodeI_and_FFE00000 (op : BitVec 6) (rs rt : Reg) (imm : BitVec 16) :
    encodeI op rs rt imm &&& (0xFFE00000 : Word32) = op ++ rs ++ 0#21 := by
  apply BitVec.eq_of_getLsbD_eq
  intro i hi
  simp only [encodeI, BitVec.getLsbD_and, BitVec.getLsbD_append]
  interval_cases i <;> simp

theorem encodeJ_and_FC000000 (op : BitVec 6) (target : BitVec 26) :
    encodeJ op target &&& (0xFC000000 : Word32) = op ++ 0#26 := by
  apply BitVec.eq_of_getLsbD_eq
  intro i hi
  simp only [encodeJ, BitVec.getLsbD_and, BitVec.getLsbD_append]
  interval_cases i <;> simp

theorem encodeR_and_FFE0003F (rs rt rd : Reg) (sa : BitVec 5) (funct : BitVec 6) :
    encodeR rs rt rd sa funct &&& (0xFFE0003F : Word32) = 0#6 ++ rs ++ 0#15 ++ funct := by
  apply BitVec.eq_of_getLsbD_eq
  intro i hi
  simp only [encodeR, BitVec.getLsbD_and, BitVec.getLsbD_append]
  interval_cases i <;> simp

theorem encodeR_and_FC1FFFFF (rs rt rd : Reg) (sa : BitVec 5) (funct : BitVec 6) :
    encodeR rs rt rd sa funct &&& (0xFC1FFFFF : Word32) = 0#6 ++ 0#5 ++ rt ++ rd ++ sa ++ funct := by
  apply BitVec.eq_of_getLsbD_eq
  intro i hi
  simp only [encodeR, BitVec.getLsbD_and, BitVec.getLsbD_append]
  interval_cases i <;> simp

theorem encodeR_and_FC1F07FF (rs rt rd : Reg) (sa : BitVec 5) (funct : BitVec 6) :
    encodeR rs rt rd sa funct &&& (0xFC1F07FF : Word32) = 0#6 ++ 0#5 ++ rt ++ 0#5 ++ sa ++ funct := by
  apply BitVec.eq_of_getLsbD_eq
  intro i hi
  simp only [encodeR, BitVec.getLsbD_and, BitVec.getLsbD_append]
  interval_cases i <;> simp

theorem encodeR_and_FC0007FF (rs rt rd : Reg) (sa : BitVec 5) (funct : BitVec 6) :
    encodeR rs rt rd sa funct &&& (0xFC0007FF : Word32) = 0#6 ++ 0#15 ++ sa ++ funct := by
  apply BitVec.eq_of_getLsbD_eq
  intro i hi
  simp only [encodeR, BitVec.getLsbD_and, BitVec.getLsbD_append]
  interval_cases i <;> simp

theorem encodeCp0Move_and_FFE007FF (sub : BitVec 5) (rt rd : Reg) :
    encodeCp0Move sub rt rd &&& (0xFFE007FF : Word32) = 0x10#6 ++ sub ++ 0#21 := by
  apply BitVec.eq_of_getLsbD_eq
  intro i hi
  simp only [encodeCp0Move, BitVec.getLsbD_and, BitVec.getLsbD_append]
  interval_cases i <;> simp

-- The fields (30_encoding R173).

@[simp] theorem fieldRs_encodeI (op : BitVec 6) (rs rt : Reg) (imm : BitVec 16) :
    fieldRs (encodeI op rs rt imm) = rs := by
  apply BitVec.eq_of_getLsbD_eq
  intro i hi
  simp only [encodeI, fieldRs, BitVec.getLsbD_extractLsb', BitVec.getLsbD_append]
  interval_cases i <;> simp

@[simp] theorem fieldRt_encodeI (op : BitVec 6) (rs rt : Reg) (imm : BitVec 16) :
    fieldRt (encodeI op rs rt imm) = rt := by
  apply BitVec.eq_of_getLsbD_eq
  intro i hi
  simp only [encodeI, fieldRt, BitVec.getLsbD_extractLsb', BitVec.getLsbD_append]
  interval_cases i <;> simp

@[simp] theorem fieldImm_encodeI (op : BitVec 6) (rs rt : Reg) (imm : BitVec 16) :
    fieldImm (encodeI op rs rt imm) = imm := by
  apply BitVec.eq_of_getLsbD_eq
  intro i hi
  simp only [encodeI, fieldImm, BitVec.getLsbD_extractLsb', BitVec.getLsbD_append]
  interval_cases i <;> simp

@[simp] theorem fieldTarget_encodeJ (op : BitVec 6) (target : BitVec 26) :
    fieldTarget (encodeJ op target) = target := by
  apply BitVec.eq_of_getLsbD_eq
  intro i hi
  simp only [encodeJ, fieldTarget, BitVec.getLsbD_extractLsb', BitVec.getLsbD_append]
  interval_cases i <;> simp

@[simp] theorem fieldRs_encodeR (rs rt rd : Reg) (sa : BitVec 5) (funct : BitVec 6) :
    fieldRs (encodeR rs rt rd sa funct) = rs := by
  apply BitVec.eq_of_getLsbD_eq
  intro i hi
  simp only [encodeR, fieldRs, BitVec.getLsbD_extractLsb', BitVec.getLsbD_append]
  interval_cases i <;> simp

@[simp] theorem fieldRt_encodeR (rs rt rd : Reg) (sa : BitVec 5) (funct : BitVec 6) :
    fieldRt (encodeR rs rt rd sa funct) = rt := by
  apply BitVec.eq_of_getLsbD_eq
  intro i hi
  simp only [encodeR, fieldRt, BitVec.getLsbD_extractLsb', BitVec.getLsbD_append]
  interval_cases i <;> simp

@[simp] theorem fieldRd_encodeR (rs rt rd : Reg) (sa : BitVec 5) (funct : BitVec 6) :
    fieldRd (encodeR rs rt rd sa funct) = rd := by
  apply BitVec.eq_of_getLsbD_eq
  intro i hi
  simp only [encodeR, fieldRd, BitVec.getLsbD_extractLsb', BitVec.getLsbD_append]
  interval_cases i <;> simp

@[simp] theorem fieldSa_encodeR (rs rt rd : Reg) (sa : BitVec 5) (funct : BitVec 6) :
    fieldSa (encodeR rs rt rd sa funct) = sa := by
  apply BitVec.eq_of_getLsbD_eq
  intro i hi
  simp only [encodeR, fieldSa, BitVec.getLsbD_extractLsb', BitVec.getLsbD_append]
  interval_cases i <;> simp

@[simp] theorem fieldRt_encodeCp0Move (sub : BitVec 5) (rt rd : Reg) :
    fieldRt (encodeCp0Move sub rt rd) = rt := by
  apply BitVec.eq_of_getLsbD_eq
  intro i hi
  simp only [encodeCp0Move, fieldRt, BitVec.getLsbD_extractLsb', BitVec.getLsbD_append]
  interval_cases i <;> simp

@[simp] theorem fieldRd_encodeCp0Move (sub : BitVec 5) (rt rd : Reg) :
    fieldRd (encodeCp0Move sub rt rd) = rd := by
  apply BitVec.eq_of_getLsbD_eq
  intro i hi
  simp only [encodeCp0Move, fieldRd, BitVec.getLsbD_extractLsb', BitVec.getLsbD_append]
  interval_cases i <;> simp

end Sys2Proof
end

