-- ==== Sys2Proof/Laws/Memory.lean ====
section
/-! SUPPORT. Physical memory: read after write, and the canonical form that every memory operation keeps. -/

namespace Sys2Proof.Machine

@[simp] theorem Memory.read_nil (a : Nat) : Memory.read [] a = unlistedByte := rfl

theorem Memory.read_cons (a' : Nat) (b : Byte) (m : Memory) (a : Nat) :
    Memory.read ((a', b) :: m) a = if a' = a then b else m.read a := rfl

/-- An address below every listed one holds the unlisted byte. -/
theorem Memory.read_of_lt (m : Memory) (a : Nat) (h : ∀ p ∈ m, a < p.1) : m.read a = unlistedByte := by
  induction m with
  | nil => rfl
  | cons p m ih =>
    have h0 : a < p.1 := h p (by simp)
    rw [show (p :: m : Memory) = (p.1, p.2) :: m from rfl, Memory.read_cons, if_neg (by omega)]
    exact ih (fun q hq => h q (by simp [hq]))

theorem Memory.wf_nil : Memory.wf [] := by simp [Memory.wf]

/-- A canonical list is a canonical list with a smaller first address before it. -/
theorem Memory.wf_cons_iff (p : Host.Cell) (m : Memory) :
    Memory.wf (p :: m) ↔ (∀ q ∈ m, p.1 < q.1) ∧ p.2 ≠ unlistedByte ∧ m.wf := by
  simp only [Memory.wf, List.pairwise_cons, List.forall_mem_cons]
  tauto

/-- The addresses a write can leave listed. -/
theorem Memory.mem_write (m : Memory) (a : Nat) (b : Byte) (q : Host.Cell) (h : q ∈ m.write a b) : q = (a, b) ∨ q ∈ m := by
  induction m with
  | nil =>
    unfold Memory.write at h
    split at h <;> simp_all
  | cons p m ih =>
    obtain ⟨a', b'⟩ := p
    unfold Memory.write at h
    split at h
    · rcases List.mem_cons.mp h with rfl | h
      · simp
      · rcases ih h with rfl | h <;> simp_all
    · split at h <;> (split at h <;> (simp_all; try tauto))

/-- A write keeps the canonical form. -/
theorem Memory.wf_write (m : Memory) (a : Nat) (b : Byte) (h : m.wf) : (m.write a b).wf := by
  induction m with
  | nil =>
    unfold Memory.write
    split
    · exact Memory.wf_nil
    · exact (Memory.wf_cons_iff _ _).mpr ⟨by simp, by assumption, Memory.wf_nil⟩
  | cons p m ih =>
    obtain ⟨a', b'⟩ := p
    obtain ⟨hlt, hne, hm⟩ := (Memory.wf_cons_iff _ _).mp h
    unfold Memory.write
    split
    · next ha =>
      refine (Memory.wf_cons_iff _ _).mpr ⟨?_, hne, ih hm⟩
      intro q hq
      rcases Memory.mem_write m a b q hq with rfl | hq
      · exact ha
      · exact hlt q hq
    · split
      · next heq =>
        subst heq
        split
        · exact hm
        · exact (Memory.wf_cons_iff _ _).mpr ⟨hlt, by assumption, hm⟩
      · split
        · exact h
        · refine (Memory.wf_cons_iff _ _).mpr ⟨?_, by assumption, h⟩
          intro q hq
          rcases List.mem_cons.mp hq with rfl | hq
          · show a < a'
            omega
          · have : a' < q.1 := hlt q hq
            show a < q.1
            omega

/-- A write leaves every other byte alone, whatever the list. -/
theorem Memory.read_write_of_ne (m : Memory) (a a' : Nat) (b : Byte) (h : a' ≠ a) : (m.write a b).read a' = m.read a' := by
  induction m with
  | nil =>
    unfold Memory.write
    split
    · rfl
    · rw [Memory.read_cons, if_neg (fun e => h e.symm)]
  | cons p m ih =>
    obtain ⟨c, d⟩ := p
    unfold Memory.write
    split
    · rw [Memory.read_cons, Memory.read_cons, ih]
    · split
      · next hc =>
        subst hc
        split <;> simp only [Memory.read_cons, if_neg (fun e : c = a' => h e.symm)]
      · split
        · rfl
        · rw [Memory.read_cons, if_neg (fun e => h e.symm)]

/-- The byte written is read back. -/
theorem Memory.read_write_self (m : Memory) (a : Nat) (b : Byte) (hw : m.wf) : (m.write a b).read a = b := by
  induction m with
  | nil =>
    unfold Memory.write
    split
    · next h => rw [Memory.read_nil, h]
    · rw [Memory.read_cons, if_pos rfl]
  | cons p m ih =>
    obtain ⟨c, d⟩ := p
    obtain ⟨hlt, -, hm⟩ := (Memory.wf_cons_iff _ _).mp hw
    unfold Memory.write
    split
    · next hc => rw [Memory.read_cons, if_neg (by omega), ih hm]
    · split
      · next hc =>
        subst hc
        split
        · next hb => rw [hb]; exact Memory.read_of_lt m c hlt
        · rw [Memory.read_cons, if_pos rfl]
      · next h1 h2 =>
        split
        · next hb =>
          rw [hb]
          refine Memory.read_of_lt _ _ ?_
          intro q hq
          rcases List.mem_cons.mp hq with rfl | hq
          · show a < c
            omega
          · have : c < q.1 := hlt q hq
            omega
        · rw [Memory.read_cons, if_pos rfl]

/-- One byte after a write. -/
theorem Memory.read_write (m : Memory) (a a' : Nat) (b : Byte) (hw : m.wf) :
    (m.write a b).read a' = if a' = a then b else m.read a' := by
  by_cases h : a' = a
  · rw [if_pos h, h, Memory.read_write_self m a b hw]
  · rw [if_neg h, Memory.read_write_of_ne m a a' b h]

/-- A multi-byte write keeps the canonical form. -/
theorem Memory.wf_writeBE (m : Memory) (a n : Nat) (v : Word) (h : m.wf) : (m.writeBE a n v).wf := by
  induction n generalizing v with
  | zero => exact h
  | succ n ih => exact Memory.wf_write _ _ _ (ih _)

/-- A multi-byte write leaves every byte outside it alone. -/
theorem Memory.read_writeBE_of_outside (m : Memory) (a n : Nat) (v : Word) (b : Nat) (h : ¬ (a ≤ b ∧ b < a + n)) :
    (m.writeBE a n v).read b = m.read b := by
  induction n generalizing v with
  | zero => rfl
  | succ n ih =>
    show ((m.writeBE a n (v >>> 8)).write (a + n) (v.setWidth 8)).read b = m.read b
    rw [Memory.read_write_of_ne _ _ _ _ (by omega), ih _ (by omega)]

/-- Byte k of an n-byte write is byte n-1-k of the value, counted from the least significant: big-endian (20_memory R136). -/
theorem Memory.read_writeBE (m : Memory) (a n : Nat) (v : Word) (k : Nat) (hk : k < n) (hw : m.wf) :
    (m.writeBE a n v).read (a + k) = (v >>> (8 * (n - 1 - k))).setWidth 8 := by
  induction n generalizing v with
  | zero => omega
  | succ n ih =>
    show ((m.writeBE a n (v >>> 8)).write (a + n) (v.setWidth 8)).read (a + k) = _
    rw [Memory.read_write _ _ _ _ (Memory.wf_writeBE m a n _ hw)]
    by_cases h : k = n
    · subst h
      rw [if_pos rfl, show 8 * (k + 1 - 1 - k) = 0 by omega]
      simp
    · rw [if_neg (by omega), ih (v >>> 8) (by omega), ← BitVec.shiftRight_add]
      congr 2
      omega

/-- A multi-byte read depends on its bytes only. -/
theorem Memory.readBE_congr (m m' : Memory) (a n : Nat) (h : ∀ b, a ≤ b → b < a + n → m'.read b = m.read b) :
    m'.readBE a n = m.readBE a n := by
  induction n with
  | zero => rfl
  | succ n ih =>
    unfold Memory.readBE
    rw [ih (fun b h1 h2 => h b h1 (by omega)), h (a + n) (by omega) (by omega)]

end Sys2Proof.Machine
end

