-- ==== Sys2Proof/Laws/State.lean ====
section
/-! SUPPORT. What each update of the state does to each field: one lemma per field per update, so that no proof unfolds a
record update. -/

namespace Sys2Proof.Machine

-- withCp0.

@[simp] theorem State.withCp0_gpr (s : State) (c : Cp0) : (s.withCp0 c).gpr = s.gpr := rfl
@[simp] theorem State.withCp0_pc (s : State) (c : Cp0) : (s.withCp0 c).pc = s.pc := rfl
@[simp] theorem State.withCp0_npc (s : State) (c : Cp0) : (s.withCp0 c).npc = s.npc := rfl
@[simp] theorem State.withCp0_inDelay (s : State) (c : Cp0) : (s.withCp0 c).inDelay = s.inDelay := rfl
@[simp] theorem State.withCp0_cp0 (s : State) (c : Cp0) : (s.withCp0 c).cp0 = c := rfl
@[simp] theorem State.withCp0_countHalf (s : State) (c : Cp0) : (s.withCp0 c).countHalf = s.countHalf := rfl
@[simp] theorem State.withCp0_llBit (s : State) (c : Cp0) : (s.withCp0 c).llBit = s.llBit := rfl
@[simp] theorem State.withCp0_fpr (s : State) (c : Cp0) : (s.withCp0 c).fpr = s.fpr := rfl
@[simp] theorem State.withCp0_tlb (s : State) (c : Cp0) : (s.withCp0 c).tlb = s.tlb := rfl
@[simp] theorem State.withCp0_mem (s : State) (c : Cp0) : (s.withCp0 c).mem = s.mem := rfl
@[simp] theorem State.withCp0_physMem (s : State) (c : Cp0) : (s.withCp0 c).physMem = s.physMem := rfl
@[simp] theorem State.withCp0_params (s : State) (c : Cp0) : (s.withCp0 c).params = s.params := rfl
@[simp] theorem State.withCp0_programText (s : State) (c : Cp0) : (s.withCp0 c).programText = s.programText := rfl
@[simp] theorem State.withCp0_time (s : State) (c : Cp0) : (s.withCp0 c).time = s.time := rfl

-- withMem.

@[simp] theorem State.withMem_gpr (s : State) (m : Memory) : (s.withMem m).gpr = s.gpr := rfl
@[simp] theorem State.withMem_pc (s : State) (m : Memory) : (s.withMem m).pc = s.pc := rfl
@[simp] theorem State.withMem_npc (s : State) (m : Memory) : (s.withMem m).npc = s.npc := rfl
@[simp] theorem State.withMem_inDelay (s : State) (m : Memory) : (s.withMem m).inDelay = s.inDelay := rfl
@[simp] theorem State.withMem_cp0 (s : State) (m : Memory) : (s.withMem m).cp0 = s.cp0 := rfl
@[simp] theorem State.withMem_countHalf (s : State) (m : Memory) : (s.withMem m).countHalf = s.countHalf := rfl
@[simp] theorem State.withMem_llBit (s : State) (m : Memory) : (s.withMem m).llBit = s.llBit := rfl
@[simp] theorem State.withMem_fpr (s : State) (m : Memory) : (s.withMem m).fpr = s.fpr := rfl
@[simp] theorem State.withMem_tlb (s : State) (m : Memory) : (s.withMem m).tlb = s.tlb := rfl
@[simp] theorem State.withMem_mem (s : State) (m : Memory) : (s.withMem m).mem = m := rfl
@[simp] theorem State.withMem_physMem (s : State) (m : Memory) : (s.withMem m).physMem = s.physMem := rfl
@[simp] theorem State.withMem_params (s : State) (m : Memory) : (s.withMem m).params = s.params := rfl
@[simp] theorem State.withMem_programText (s : State) (m : Memory) : (s.withMem m).programText = s.programText := rfl
@[simp] theorem State.withMem_time (s : State) (m : Memory) : (s.withMem m).time = s.time := rfl

-- advance.

@[simp] theorem State.advance_gpr (s : State) : (s.advance).gpr = s.gpr := rfl
@[simp] theorem State.advance_pc (s : State) : (s.advance).pc = s.npc := rfl
@[simp] theorem State.advance_npc (s : State) : (s.advance).npc = s.npc + 4 := rfl
@[simp] theorem State.advance_inDelay (s : State) : (s.advance).inDelay = false := rfl
@[simp] theorem State.advance_cp0 (s : State) : (s.advance).cp0 = s.cp0 := rfl
@[simp] theorem State.advance_countHalf (s : State) : (s.advance).countHalf = s.countHalf := rfl
@[simp] theorem State.advance_llBit (s : State) : (s.advance).llBit = s.llBit := rfl
@[simp] theorem State.advance_fpr (s : State) : (s.advance).fpr = s.fpr := rfl
@[simp] theorem State.advance_tlb (s : State) : (s.advance).tlb = s.tlb := rfl
@[simp] theorem State.advance_mem (s : State) : (s.advance).mem = s.mem := rfl
@[simp] theorem State.advance_physMem (s : State) : (s.advance).physMem = s.physMem := rfl
@[simp] theorem State.advance_params (s : State) : (s.advance).params = s.params := rfl
@[simp] theorem State.advance_programText (s : State) : (s.advance).programText = s.programText := rfl
@[simp] theorem State.advance_time (s : State) : (s.advance).time = s.time := rfl

-- branchTo.

@[simp] theorem State.branchTo_gpr (s : State) (target : Word) : (s.branchTo target).gpr = s.gpr := rfl
@[simp] theorem State.branchTo_pc (s : State) (target : Word) : (s.branchTo target).pc = s.npc := rfl
@[simp] theorem State.branchTo_npc (s : State) (target : Word) : (s.branchTo target).npc = target := rfl
@[simp] theorem State.branchTo_inDelay (s : State) (target : Word) : (s.branchTo target).inDelay = true := rfl
@[simp] theorem State.branchTo_cp0 (s : State) (target : Word) : (s.branchTo target).cp0 = s.cp0 := rfl
@[simp] theorem State.branchTo_countHalf (s : State) (target : Word) : (s.branchTo target).countHalf = s.countHalf := rfl
@[simp] theorem State.branchTo_llBit (s : State) (target : Word) : (s.branchTo target).llBit = s.llBit := rfl
@[simp] theorem State.branchTo_fpr (s : State) (target : Word) : (s.branchTo target).fpr = s.fpr := rfl
@[simp] theorem State.branchTo_tlb (s : State) (target : Word) : (s.branchTo target).tlb = s.tlb := rfl
@[simp] theorem State.branchTo_mem (s : State) (target : Word) : (s.branchTo target).mem = s.mem := rfl
@[simp] theorem State.branchTo_physMem (s : State) (target : Word) : (s.branchTo target).physMem = s.physMem := rfl
@[simp] theorem State.branchTo_params (s : State) (target : Word) : (s.branchTo target).params = s.params := rfl
@[simp] theorem State.branchTo_programText (s : State) (target : Word) : (s.branchTo target).programText = s.programText := rfl
@[simp] theorem State.branchTo_time (s : State) (target : Word) : (s.branchTo target).time = s.time := rfl

-- skipSlot.

@[simp] theorem State.skipSlot_gpr (s : State) : (s.skipSlot).gpr = s.gpr := rfl
@[simp] theorem State.skipSlot_pc (s : State) : (s.skipSlot).pc = s.npc + 4 := rfl
@[simp] theorem State.skipSlot_npc (s : State) : (s.skipSlot).npc = s.npc + 8 := rfl
@[simp] theorem State.skipSlot_inDelay (s : State) : (s.skipSlot).inDelay = false := rfl
@[simp] theorem State.skipSlot_cp0 (s : State) : (s.skipSlot).cp0 = s.cp0 := rfl
@[simp] theorem State.skipSlot_countHalf (s : State) : (s.skipSlot).countHalf = s.countHalf := rfl
@[simp] theorem State.skipSlot_llBit (s : State) : (s.skipSlot).llBit = s.llBit := rfl
@[simp] theorem State.skipSlot_fpr (s : State) : (s.skipSlot).fpr = s.fpr := rfl
@[simp] theorem State.skipSlot_tlb (s : State) : (s.skipSlot).tlb = s.tlb := rfl
@[simp] theorem State.skipSlot_mem (s : State) : (s.skipSlot).mem = s.mem := rfl
@[simp] theorem State.skipSlot_physMem (s : State) : (s.skipSlot).physMem = s.physMem := rfl
@[simp] theorem State.skipSlot_params (s : State) : (s.skipSlot).params = s.params := rfl
@[simp] theorem State.skipSlot_programText (s : State) : (s.skipSlot).programText = s.programText := rfl
@[simp] theorem State.skipSlot_time (s : State) : (s.skipSlot).time = s.time := rfl

-- cp0Write.

@[simp] theorem State.cp0Write_gpr (s : State) (n : Reg) (v : Word) : (s.cp0Write n v).gpr = s.gpr := rfl
@[simp] theorem State.cp0Write_pc (s : State) (n : Reg) (v : Word) : (s.cp0Write n v).pc = s.pc := rfl
@[simp] theorem State.cp0Write_npc (s : State) (n : Reg) (v : Word) : (s.cp0Write n v).npc = s.npc := rfl
@[simp] theorem State.cp0Write_inDelay (s : State) (n : Reg) (v : Word) : (s.cp0Write n v).inDelay = s.inDelay := rfl
@[simp] theorem State.cp0Write_cp0 (s : State) (n : Reg) (v : Word) : (s.cp0Write n v).cp0 = s.cp0.write s.params n v := rfl
@[simp] theorem State.cp0Write_countHalf (s : State) (n : Reg) (v : Word) : (s.cp0Write n v).countHalf = countHalfAfterWrite n s.countHalf := rfl
@[simp] theorem State.cp0Write_llBit (s : State) (n : Reg) (v : Word) : (s.cp0Write n v).llBit = s.llBit := rfl
@[simp] theorem State.cp0Write_fpr (s : State) (n : Reg) (v : Word) : (s.cp0Write n v).fpr = s.fpr := rfl
@[simp] theorem State.cp0Write_tlb (s : State) (n : Reg) (v : Word) : (s.cp0Write n v).tlb = s.tlb := rfl
@[simp] theorem State.cp0Write_mem (s : State) (n : Reg) (v : Word) : (s.cp0Write n v).mem = s.mem := rfl
@[simp] theorem State.cp0Write_physMem (s : State) (n : Reg) (v : Word) : (s.cp0Write n v).physMem = s.physMem := rfl
@[simp] theorem State.cp0Write_params (s : State) (n : Reg) (v : Word) : (s.cp0Write n v).params = s.params := rfl
@[simp] theorem State.cp0Write_programText (s : State) (n : Reg) (v : Word) : (s.cp0Write n v).programText = s.programText := rfl
@[simp] theorem State.cp0Write_time (s : State) (n : Reg) (v : Word) : (s.cp0Write n v).time = s.time := rfl

-- writeTlb.

@[simp] theorem State.writeTlb_gpr (s : State) (i : Fin 32) (e : TlbEntry) : (s.writeTlb i e).gpr = s.gpr := rfl
@[simp] theorem State.writeTlb_pc (s : State) (i : Fin 32) (e : TlbEntry) : (s.writeTlb i e).pc = s.pc := rfl
@[simp] theorem State.writeTlb_npc (s : State) (i : Fin 32) (e : TlbEntry) : (s.writeTlb i e).npc = s.npc := rfl
@[simp] theorem State.writeTlb_inDelay (s : State) (i : Fin 32) (e : TlbEntry) : (s.writeTlb i e).inDelay = s.inDelay := rfl
@[simp] theorem State.writeTlb_cp0 (s : State) (i : Fin 32) (e : TlbEntry) : (s.writeTlb i e).cp0 = s.cp0 := rfl
@[simp] theorem State.writeTlb_countHalf (s : State) (i : Fin 32) (e : TlbEntry) : (s.writeTlb i e).countHalf = s.countHalf := rfl
@[simp] theorem State.writeTlb_llBit (s : State) (i : Fin 32) (e : TlbEntry) : (s.writeTlb i e).llBit = s.llBit := rfl
@[simp] theorem State.writeTlb_fpr (s : State) (i : Fin 32) (e : TlbEntry) : (s.writeTlb i e).fpr = s.fpr := rfl
@[simp] theorem State.writeTlb_tlb (s : State) (i : Fin 32) (e : TlbEntry) : (s.writeTlb i e).tlb = s.tlb.set i.val e i.isLt := rfl
@[simp] theorem State.writeTlb_mem (s : State) (i : Fin 32) (e : TlbEntry) : (s.writeTlb i e).mem = s.mem := rfl
@[simp] theorem State.writeTlb_physMem (s : State) (i : Fin 32) (e : TlbEntry) : (s.writeTlb i e).physMem = s.physMem := rfl
@[simp] theorem State.writeTlb_params (s : State) (i : Fin 32) (e : TlbEntry) : (s.writeTlb i e).params = s.params := rfl
@[simp] theorem State.writeTlb_programText (s : State) (i : Fin 32) (e : TlbEntry) : (s.writeTlb i e).programText = s.programText := rfl
@[simp] theorem State.writeTlb_time (s : State) (i : Fin 32) (e : TlbEntry) : (s.writeTlb i e).time = s.time := rfl

-- takeException.

@[simp] theorem State.takeException_gpr (s : State) (e : Exc) : (s.takeException e).gpr = s.gpr := rfl
@[simp] theorem State.takeException_pc (s : State) (e : Exc) : (s.takeException e).pc = s.params.generalVector (statusBev s.cp0.status) := rfl
@[simp] theorem State.takeException_npc (s : State) (e : Exc) : (s.takeException e).npc = s.params.generalVector (statusBev s.cp0.status) + 4 := rfl
@[simp] theorem State.takeException_inDelay (s : State) (e : Exc) : (s.takeException e).inDelay = false := rfl
@[simp] theorem State.takeException_countHalf (s : State) (e : Exc) : (s.takeException e).countHalf = s.countHalf := rfl
@[simp] theorem State.takeException_llBit (s : State) (e : Exc) : (s.takeException e).llBit = s.llBit := rfl
@[simp] theorem State.takeException_fpr (s : State) (e : Exc) : (s.takeException e).fpr = s.fpr := rfl
@[simp] theorem State.takeException_tlb (s : State) (e : Exc) : (s.takeException e).tlb = s.tlb := rfl
@[simp] theorem State.takeException_mem (s : State) (e : Exc) : (s.takeException e).mem = s.mem := rfl
@[simp] theorem State.takeException_physMem (s : State) (e : Exc) : (s.takeException e).physMem = s.physMem := rfl
@[simp] theorem State.takeException_params (s : State) (e : Exc) : (s.takeException e).params = s.params := rfl
@[simp] theorem State.takeException_programText (s : State) (e : Exc) : (s.takeException e).programText = s.programText := rfl
@[simp] theorem State.takeException_time (s : State) (e : Exc) : (s.takeException e).time = s.time := rfl

-- updateRandom.

@[simp] theorem State.updateRandom_gpr (s : State) : (s.updateRandom).gpr = s.gpr := rfl
@[simp] theorem State.updateRandom_pc (s : State) : (s.updateRandom).pc = s.pc := rfl
@[simp] theorem State.updateRandom_npc (s : State) : (s.updateRandom).npc = s.npc := rfl
@[simp] theorem State.updateRandom_inDelay (s : State) : (s.updateRandom).inDelay = s.inDelay := rfl
@[simp] theorem State.updateRandom_countHalf (s : State) : (s.updateRandom).countHalf = s.countHalf := rfl
@[simp] theorem State.updateRandom_llBit (s : State) : (s.updateRandom).llBit = s.llBit := rfl
@[simp] theorem State.updateRandom_fpr (s : State) : (s.updateRandom).fpr = s.fpr := rfl
@[simp] theorem State.updateRandom_tlb (s : State) : (s.updateRandom).tlb = s.tlb := rfl
@[simp] theorem State.updateRandom_mem (s : State) : (s.updateRandom).mem = s.mem := rfl
@[simp] theorem State.updateRandom_physMem (s : State) : (s.updateRandom).physMem = s.physMem := rfl
@[simp] theorem State.updateRandom_params (s : State) : (s.updateRandom).params = s.params := rfl
@[simp] theorem State.updateRandom_programText (s : State) : (s.updateRandom).programText = s.programText := rfl
@[simp] theorem State.updateRandom_time (s : State) : (s.updateRandom).time = s.time := rfl

-- sampleLines.

@[simp] theorem State.sampleLines_gpr (s : State) (lines : BitVec 5) : (s.sampleLines lines).gpr = s.gpr := rfl
@[simp] theorem State.sampleLines_pc (s : State) (lines : BitVec 5) : (s.sampleLines lines).pc = s.pc := rfl
@[simp] theorem State.sampleLines_npc (s : State) (lines : BitVec 5) : (s.sampleLines lines).npc = s.npc := rfl
@[simp] theorem State.sampleLines_inDelay (s : State) (lines : BitVec 5) : (s.sampleLines lines).inDelay = s.inDelay := rfl
@[simp] theorem State.sampleLines_countHalf (s : State) (lines : BitVec 5) : (s.sampleLines lines).countHalf = s.countHalf := rfl
@[simp] theorem State.sampleLines_llBit (s : State) (lines : BitVec 5) : (s.sampleLines lines).llBit = s.llBit := rfl
@[simp] theorem State.sampleLines_fpr (s : State) (lines : BitVec 5) : (s.sampleLines lines).fpr = s.fpr := rfl
@[simp] theorem State.sampleLines_tlb (s : State) (lines : BitVec 5) : (s.sampleLines lines).tlb = s.tlb := rfl
@[simp] theorem State.sampleLines_mem (s : State) (lines : BitVec 5) : (s.sampleLines lines).mem = s.mem := rfl
@[simp] theorem State.sampleLines_physMem (s : State) (lines : BitVec 5) : (s.sampleLines lines).physMem = s.physMem := rfl
@[simp] theorem State.sampleLines_params (s : State) (lines : BitVec 5) : (s.sampleLines lines).params = s.params := rfl
@[simp] theorem State.sampleLines_programText (s : State) (lines : BitVec 5) : (s.sampleLines lines).programText = s.programText := rfl
@[simp] theorem State.sampleLines_time (s : State) (lines : BitVec 5) : (s.sampleLines lines).time = s.time := rfl

-- withTimer.

@[simp] theorem State.withTimer_gpr (s : State) (t : Timer) : (s.withTimer t).gpr = s.gpr := rfl
@[simp] theorem State.withTimer_pc (s : State) (t : Timer) : (s.withTimer t).pc = s.pc := rfl
@[simp] theorem State.withTimer_npc (s : State) (t : Timer) : (s.withTimer t).npc = s.npc := rfl
@[simp] theorem State.withTimer_inDelay (s : State) (t : Timer) : (s.withTimer t).inDelay = s.inDelay := rfl
@[simp] theorem State.withTimer_countHalf (s : State) (t : Timer) : (s.withTimer t).countHalf = t.half := rfl
@[simp] theorem State.withTimer_llBit (s : State) (t : Timer) : (s.withTimer t).llBit = s.llBit := rfl
@[simp] theorem State.withTimer_fpr (s : State) (t : Timer) : (s.withTimer t).fpr = s.fpr := rfl
@[simp] theorem State.withTimer_tlb (s : State) (t : Timer) : (s.withTimer t).tlb = s.tlb := rfl
@[simp] theorem State.withTimer_mem (s : State) (t : Timer) : (s.withTimer t).mem = s.mem := rfl
@[simp] theorem State.withTimer_physMem (s : State) (t : Timer) : (s.withTimer t).physMem = s.physMem := rfl
@[simp] theorem State.withTimer_params (s : State) (t : Timer) : (s.withTimer t).params = s.params := rfl
@[simp] theorem State.withTimer_programText (s : State) (t : Timer) : (s.withTimer t).programText = s.programText := rfl
@[simp] theorem State.withTimer_time (s : State) (t : Timer) : (s.withTimer t).time = s.time := rfl

-- ticks.

@[simp] theorem State.ticks_gpr (s : State) (n : Nat) : (s.ticks n).gpr = s.gpr := rfl
@[simp] theorem State.ticks_pc (s : State) (n : Nat) : (s.ticks n).pc = s.pc := rfl
@[simp] theorem State.ticks_npc (s : State) (n : Nat) : (s.ticks n).npc = s.npc := rfl
@[simp] theorem State.ticks_inDelay (s : State) (n : Nat) : (s.ticks n).inDelay = s.inDelay := rfl
@[simp] theorem State.ticks_llBit (s : State) (n : Nat) : (s.ticks n).llBit = s.llBit := rfl
@[simp] theorem State.ticks_fpr (s : State) (n : Nat) : (s.ticks n).fpr = s.fpr := rfl
@[simp] theorem State.ticks_tlb (s : State) (n : Nat) : (s.ticks n).tlb = s.tlb := rfl
@[simp] theorem State.ticks_mem (s : State) (n : Nat) : (s.ticks n).mem = s.mem := rfl
@[simp] theorem State.ticks_physMem (s : State) (n : Nat) : (s.ticks n).physMem = s.physMem := rfl
@[simp] theorem State.ticks_params (s : State) (n : Nat) : (s.ticks n).params = s.params := rfl
@[simp] theorem State.ticks_programText (s : State) (n : Nat) : (s.ticks n).programText = s.programText := rfl
@[simp] theorem State.ticks_time (s : State) (n : Nat) : (s.ticks n).time = s.time := rfl

-- betweenSteps.

@[simp] theorem State.betweenSteps_gpr (s : State) (n : Nat) : (s.betweenSteps n).gpr = s.gpr := rfl
@[simp] theorem State.betweenSteps_pc (s : State) (n : Nat) : (s.betweenSteps n).pc = s.pc := rfl
@[simp] theorem State.betweenSteps_npc (s : State) (n : Nat) : (s.betweenSteps n).npc = s.npc := rfl
@[simp] theorem State.betweenSteps_inDelay (s : State) (n : Nat) : (s.betweenSteps n).inDelay = s.inDelay := rfl
@[simp] theorem State.betweenSteps_cp0 (s : State) (n : Nat) : (s.betweenSteps n).cp0 = (s.ticks n).cp0 := rfl
@[simp] theorem State.betweenSteps_countHalf (s : State) (n : Nat) : (s.betweenSteps n).countHalf = (s.ticks n).countHalf := rfl
@[simp] theorem State.betweenSteps_llBit (s : State) (n : Nat) : (s.betweenSteps n).llBit = s.llBit := rfl
@[simp] theorem State.betweenSteps_fpr (s : State) (n : Nat) : (s.betweenSteps n).fpr = s.fpr := rfl
@[simp] theorem State.betweenSteps_tlb (s : State) (n : Nat) : (s.betweenSteps n).tlb = s.tlb := rfl
@[simp] theorem State.betweenSteps_mem (s : State) (n : Nat) : (s.betweenSteps n).mem = s.mem := rfl
@[simp] theorem State.betweenSteps_physMem (s : State) (n : Nat) : (s.betweenSteps n).physMem = s.physMem := rfl
@[simp] theorem State.betweenSteps_params (s : State) (n : Nat) : (s.betweenSteps n).params = s.params := rfl
@[simp] theorem State.betweenSteps_programText (s : State) (n : Nat) : (s.betweenSteps n).programText = s.programText := rfl
@[simp] theorem State.betweenSteps_time (s : State) (n : Nat) : (s.betweenSteps n).time = s.time + 1 := rfl

-- writeGpr.

@[simp] theorem State.writeGpr_pc (s : State) (r : Reg) (v : Word) : (s.writeGpr r v).pc = s.pc := by
  unfold State.writeGpr; split <;> rfl
@[simp] theorem State.writeGpr_npc (s : State) (r : Reg) (v : Word) : (s.writeGpr r v).npc = s.npc := by
  unfold State.writeGpr; split <;> rfl
@[simp] theorem State.writeGpr_inDelay (s : State) (r : Reg) (v : Word) : (s.writeGpr r v).inDelay = s.inDelay := by
  unfold State.writeGpr; split <;> rfl
@[simp] theorem State.writeGpr_cp0 (s : State) (r : Reg) (v : Word) : (s.writeGpr r v).cp0 = s.cp0 := by
  unfold State.writeGpr; split <;> rfl
@[simp] theorem State.writeGpr_countHalf (s : State) (r : Reg) (v : Word) : (s.writeGpr r v).countHalf = s.countHalf := by
  unfold State.writeGpr; split <;> rfl
@[simp] theorem State.writeGpr_llBit (s : State) (r : Reg) (v : Word) : (s.writeGpr r v).llBit = s.llBit := by
  unfold State.writeGpr; split <;> rfl
@[simp] theorem State.writeGpr_fpr (s : State) (r : Reg) (v : Word) : (s.writeGpr r v).fpr = s.fpr := by
  unfold State.writeGpr; split <;> rfl
@[simp] theorem State.writeGpr_tlb (s : State) (r : Reg) (v : Word) : (s.writeGpr r v).tlb = s.tlb := by
  unfold State.writeGpr; split <;> rfl
@[simp] theorem State.writeGpr_mem (s : State) (r : Reg) (v : Word) : (s.writeGpr r v).mem = s.mem := by
  unfold State.writeGpr; split <;> rfl
@[simp] theorem State.writeGpr_physMem (s : State) (r : Reg) (v : Word) : (s.writeGpr r v).physMem = s.physMem := by
  unfold State.writeGpr; split <;> rfl
@[simp] theorem State.writeGpr_params (s : State) (r : Reg) (v : Word) : (s.writeGpr r v).params = s.params := by
  unfold State.writeGpr; split <;> rfl
@[simp] theorem State.writeGpr_programText (s : State) (r : Reg) (v : Word) : (s.writeGpr r v).programText = s.programText := by
  unfold State.writeGpr; split <;> rfl
@[simp] theorem State.writeGpr_time (s : State) (r : Reg) (v : Word) : (s.writeGpr r v).time = s.time := by
  unfold State.writeGpr; split <;> rfl

-- complete, link.

@[simp] theorem State.complete_pc (s : State) (r : Reg) (v : Word) : (s.complete r v).pc = s.npc := by
  simp [State.complete]
@[simp] theorem State.complete_npc (s : State) (r : Reg) (v : Word) : (s.complete r v).npc = s.npc + 4 := by
  simp [State.complete]
@[simp] theorem State.complete_inDelay (s : State) (r : Reg) (v : Word) : (s.complete r v).inDelay = false := by
  simp [State.complete]
@[simp] theorem State.complete_cp0 (s : State) (r : Reg) (v : Word) : (s.complete r v).cp0 = s.cp0 := by
  simp [State.complete]
@[simp] theorem State.complete_countHalf (s : State) (r : Reg) (v : Word) : (s.complete r v).countHalf = s.countHalf := by
  simp [State.complete]
@[simp] theorem State.complete_llBit (s : State) (r : Reg) (v : Word) : (s.complete r v).llBit = s.llBit := by
  simp [State.complete]
@[simp] theorem State.complete_fpr (s : State) (r : Reg) (v : Word) : (s.complete r v).fpr = s.fpr := by
  simp [State.complete]
@[simp] theorem State.complete_tlb (s : State) (r : Reg) (v : Word) : (s.complete r v).tlb = s.tlb := by
  simp [State.complete]
@[simp] theorem State.complete_mem (s : State) (r : Reg) (v : Word) : (s.complete r v).mem = s.mem := by
  simp [State.complete]
@[simp] theorem State.complete_physMem (s : State) (r : Reg) (v : Word) : (s.complete r v).physMem = s.physMem := by
  simp [State.complete]
@[simp] theorem State.complete_params (s : State) (r : Reg) (v : Word) : (s.complete r v).params = s.params := by
  simp [State.complete]
@[simp] theorem State.complete_programText (s : State) (r : Reg) (v : Word) : (s.complete r v).programText = s.programText := by
  simp [State.complete]
@[simp] theorem State.complete_time (s : State) (r : Reg) (v : Word) : (s.complete r v).time = s.time := by
  simp [State.complete]
@[simp] theorem State.link_pc (s : State) : s.link.pc = s.pc := by
  simp [State.link]
@[simp] theorem State.link_npc (s : State) : s.link.npc = s.npc := by
  simp [State.link]
@[simp] theorem State.link_inDelay (s : State) : s.link.inDelay = s.inDelay := by
  simp [State.link]
@[simp] theorem State.link_cp0 (s : State) : s.link.cp0 = s.cp0 := by
  simp [State.link]
@[simp] theorem State.link_countHalf (s : State) : s.link.countHalf = s.countHalf := by
  simp [State.link]
@[simp] theorem State.link_llBit (s : State) : s.link.llBit = s.llBit := by
  simp [State.link]
@[simp] theorem State.link_fpr (s : State) : s.link.fpr = s.fpr := by
  simp [State.link]
@[simp] theorem State.link_tlb (s : State) : s.link.tlb = s.tlb := by
  simp [State.link]
@[simp] theorem State.link_mem (s : State) : s.link.mem = s.mem := by
  simp [State.link]
@[simp] theorem State.link_physMem (s : State) : s.link.physMem = s.physMem := by
  simp [State.link]
@[simp] theorem State.link_params (s : State) : s.link.params = s.params := by
  simp [State.link]
@[simp] theorem State.link_programText (s : State) : s.link.programText = s.programText := by
  simp [State.link]
@[simp] theorem State.link_time (s : State) : s.link.time = s.time := by
  simp [State.link]

-- The CP0 registers after the updates that replace some of them.

@[simp] theorem State.takeException_cp0_index (s : State) (e : Exc) : (s.takeException e).cp0.index = s.cp0.index := rfl
@[simp] theorem State.takeException_cp0_random (s : State) (e : Exc) : (s.takeException e).cp0.random = s.cp0.random := rfl
@[simp] theorem State.takeException_cp0_entryLo0 (s : State) (e : Exc) : (s.takeException e).cp0.entryLo0 = s.cp0.entryLo0 := rfl
@[simp] theorem State.takeException_cp0_entryLo1 (s : State) (e : Exc) : (s.takeException e).cp0.entryLo1 = s.cp0.entryLo1 := rfl
@[simp] theorem State.takeException_cp0_context (s : State) (e : Exc) : (s.takeException e).cp0.context = s.cp0.context := rfl
@[simp] theorem State.takeException_cp0_pageMask (s : State) (e : Exc) : (s.takeException e).cp0.pageMask = s.cp0.pageMask := rfl
@[simp] theorem State.takeException_cp0_wired (s : State) (e : Exc) : (s.takeException e).cp0.wired = s.cp0.wired := rfl
@[simp] theorem State.takeException_cp0_badVAddr (s : State) (e : Exc) : (s.takeException e).cp0.badVAddr = e.badVAddr s.cp0.badVAddr := rfl
@[simp] theorem State.takeException_cp0_count (s : State) (e : Exc) : (s.takeException e).cp0.count = s.cp0.count := rfl
@[simp] theorem State.takeException_cp0_entryHi (s : State) (e : Exc) : (s.takeException e).cp0.entryHi = s.cp0.entryHi := rfl
@[simp] theorem State.takeException_cp0_compare (s : State) (e : Exc) : (s.takeException e).cp0.compare = s.cp0.compare := rfl
@[simp] theorem State.takeException_cp0_status (s : State) (e : Exc) : (s.takeException e).cp0.status = withExl s.cp0.status true := rfl
@[simp] theorem State.takeException_cp0_cause (s : State) (e : Exc) : (s.takeException e).cp0.cause = withCe (withExcCode (if !statusExl s.cp0.status then withBd s.cp0.cause s.inDelay else s.cp0.cause) e.code) (e.ce (Config.ceDraw s.time)) := rfl
@[simp] theorem State.takeException_cp0_epc (s : State) (e : Exc) : (s.takeException e).cp0.epc = if !statusExl s.cp0.status then s.resumeAddress else s.cp0.epc := rfl
@[simp] theorem State.takeException_cp0_prId (s : State) (e : Exc) : (s.takeException e).cp0.prId = s.cp0.prId := rfl
@[simp] theorem State.takeException_cp0_config (s : State) (e : Exc) : (s.takeException e).cp0.config = s.cp0.config := rfl
@[simp] theorem State.takeException_cp0_llAddr (s : State) (e : Exc) : (s.takeException e).cp0.llAddr = s.cp0.llAddr := rfl
@[simp] theorem State.takeException_cp0_watchLo (s : State) (e : Exc) : (s.takeException e).cp0.watchLo = s.cp0.watchLo := rfl
@[simp] theorem State.takeException_cp0_watchHi (s : State) (e : Exc) : (s.takeException e).cp0.watchHi = s.cp0.watchHi := rfl
@[simp] theorem State.takeException_cp0_xContext (s : State) (e : Exc) : (s.takeException e).cp0.xContext = s.cp0.xContext := rfl
@[simp] theorem State.takeException_cp0_parityError (s : State) (e : Exc) : (s.takeException e).cp0.parityError = s.cp0.parityError := rfl
@[simp] theorem State.takeException_cp0_cacheError (s : State) (e : Exc) : (s.takeException e).cp0.cacheError = s.cp0.cacheError := rfl
@[simp] theorem State.takeException_cp0_tagLo (s : State) (e : Exc) : (s.takeException e).cp0.tagLo = s.cp0.tagLo := rfl
@[simp] theorem State.takeException_cp0_tagHi (s : State) (e : Exc) : (s.takeException e).cp0.tagHi = s.cp0.tagHi := rfl
@[simp] theorem State.takeException_cp0_errorEPC (s : State) (e : Exc) : (s.takeException e).cp0.errorEPC = s.cp0.errorEPC := rfl

@[simp] theorem State.updateRandom_cp0_index (s : State) : (s.updateRandom).cp0.index = s.cp0.index := rfl
@[simp] theorem State.updateRandom_cp0_random (s : State) : (s.updateRandom).cp0.random = insertField s.cp0.random 0 (if randomField s.cp0 ≤ wiredField s.cp0 then 31 else randomField s.cp0 - 1) := rfl
@[simp] theorem State.updateRandom_cp0_entryLo0 (s : State) : (s.updateRandom).cp0.entryLo0 = s.cp0.entryLo0 := rfl
@[simp] theorem State.updateRandom_cp0_entryLo1 (s : State) : (s.updateRandom).cp0.entryLo1 = s.cp0.entryLo1 := rfl
@[simp] theorem State.updateRandom_cp0_context (s : State) : (s.updateRandom).cp0.context = s.cp0.context := rfl
@[simp] theorem State.updateRandom_cp0_pageMask (s : State) : (s.updateRandom).cp0.pageMask = s.cp0.pageMask := rfl
@[simp] theorem State.updateRandom_cp0_wired (s : State) : (s.updateRandom).cp0.wired = s.cp0.wired := rfl
@[simp] theorem State.updateRandom_cp0_badVAddr (s : State) : (s.updateRandom).cp0.badVAddr = s.cp0.badVAddr := rfl
@[simp] theorem State.updateRandom_cp0_count (s : State) : (s.updateRandom).cp0.count = s.cp0.count := rfl
@[simp] theorem State.updateRandom_cp0_entryHi (s : State) : (s.updateRandom).cp0.entryHi = s.cp0.entryHi := rfl
@[simp] theorem State.updateRandom_cp0_compare (s : State) : (s.updateRandom).cp0.compare = s.cp0.compare := rfl
@[simp] theorem State.updateRandom_cp0_status (s : State) : (s.updateRandom).cp0.status = s.cp0.status := rfl
@[simp] theorem State.updateRandom_cp0_cause (s : State) : (s.updateRandom).cp0.cause = s.cp0.cause := rfl
@[simp] theorem State.updateRandom_cp0_epc (s : State) : (s.updateRandom).cp0.epc = s.cp0.epc := rfl
@[simp] theorem State.updateRandom_cp0_prId (s : State) : (s.updateRandom).cp0.prId = s.cp0.prId := rfl
@[simp] theorem State.updateRandom_cp0_config (s : State) : (s.updateRandom).cp0.config = s.cp0.config := rfl
@[simp] theorem State.updateRandom_cp0_llAddr (s : State) : (s.updateRandom).cp0.llAddr = s.cp0.llAddr := rfl
@[simp] theorem State.updateRandom_cp0_watchLo (s : State) : (s.updateRandom).cp0.watchLo = s.cp0.watchLo := rfl
@[simp] theorem State.updateRandom_cp0_watchHi (s : State) : (s.updateRandom).cp0.watchHi = s.cp0.watchHi := rfl
@[simp] theorem State.updateRandom_cp0_xContext (s : State) : (s.updateRandom).cp0.xContext = s.cp0.xContext := rfl
@[simp] theorem State.updateRandom_cp0_parityError (s : State) : (s.updateRandom).cp0.parityError = s.cp0.parityError := rfl
@[simp] theorem State.updateRandom_cp0_cacheError (s : State) : (s.updateRandom).cp0.cacheError = s.cp0.cacheError := rfl
@[simp] theorem State.updateRandom_cp0_tagLo (s : State) : (s.updateRandom).cp0.tagLo = s.cp0.tagLo := rfl
@[simp] theorem State.updateRandom_cp0_tagHi (s : State) : (s.updateRandom).cp0.tagHi = s.cp0.tagHi := rfl
@[simp] theorem State.updateRandom_cp0_errorEPC (s : State) : (s.updateRandom).cp0.errorEPC = s.cp0.errorEPC := rfl

@[simp] theorem State.sampleLines_cp0_index (s : State) (lines : BitVec 5) : (s.sampleLines lines).cp0.index = s.cp0.index := rfl
@[simp] theorem State.sampleLines_cp0_random (s : State) (lines : BitVec 5) : (s.sampleLines lines).cp0.random = s.cp0.random := rfl
@[simp] theorem State.sampleLines_cp0_entryLo0 (s : State) (lines : BitVec 5) : (s.sampleLines lines).cp0.entryLo0 = s.cp0.entryLo0 := rfl
@[simp] theorem State.sampleLines_cp0_entryLo1 (s : State) (lines : BitVec 5) : (s.sampleLines lines).cp0.entryLo1 = s.cp0.entryLo1 := rfl
@[simp] theorem State.sampleLines_cp0_context (s : State) (lines : BitVec 5) : (s.sampleLines lines).cp0.context = s.cp0.context := rfl
@[simp] theorem State.sampleLines_cp0_pageMask (s : State) (lines : BitVec 5) : (s.sampleLines lines).cp0.pageMask = s.cp0.pageMask := rfl
@[simp] theorem State.sampleLines_cp0_wired (s : State) (lines : BitVec 5) : (s.sampleLines lines).cp0.wired = s.cp0.wired := rfl
@[simp] theorem State.sampleLines_cp0_badVAddr (s : State) (lines : BitVec 5) : (s.sampleLines lines).cp0.badVAddr = s.cp0.badVAddr := rfl
@[simp] theorem State.sampleLines_cp0_count (s : State) (lines : BitVec 5) : (s.sampleLines lines).cp0.count = s.cp0.count := rfl
@[simp] theorem State.sampleLines_cp0_entryHi (s : State) (lines : BitVec 5) : (s.sampleLines lines).cp0.entryHi = s.cp0.entryHi := rfl
@[simp] theorem State.sampleLines_cp0_compare (s : State) (lines : BitVec 5) : (s.sampleLines lines).cp0.compare = s.cp0.compare := rfl
@[simp] theorem State.sampleLines_cp0_status (s : State) (lines : BitVec 5) : (s.sampleLines lines).cp0.status = s.cp0.status := rfl
@[simp] theorem State.sampleLines_cp0_cause (s : State) (lines : BitVec 5) : (s.sampleLines lines).cp0.cause = withLines s.cp0.cause lines := rfl
@[simp] theorem State.sampleLines_cp0_epc (s : State) (lines : BitVec 5) : (s.sampleLines lines).cp0.epc = s.cp0.epc := rfl
@[simp] theorem State.sampleLines_cp0_prId (s : State) (lines : BitVec 5) : (s.sampleLines lines).cp0.prId = s.cp0.prId := rfl
@[simp] theorem State.sampleLines_cp0_config (s : State) (lines : BitVec 5) : (s.sampleLines lines).cp0.config = s.cp0.config := rfl
@[simp] theorem State.sampleLines_cp0_llAddr (s : State) (lines : BitVec 5) : (s.sampleLines lines).cp0.llAddr = s.cp0.llAddr := rfl
@[simp] theorem State.sampleLines_cp0_watchLo (s : State) (lines : BitVec 5) : (s.sampleLines lines).cp0.watchLo = s.cp0.watchLo := rfl
@[simp] theorem State.sampleLines_cp0_watchHi (s : State) (lines : BitVec 5) : (s.sampleLines lines).cp0.watchHi = s.cp0.watchHi := rfl
@[simp] theorem State.sampleLines_cp0_xContext (s : State) (lines : BitVec 5) : (s.sampleLines lines).cp0.xContext = s.cp0.xContext := rfl
@[simp] theorem State.sampleLines_cp0_parityError (s : State) (lines : BitVec 5) : (s.sampleLines lines).cp0.parityError = s.cp0.parityError := rfl
@[simp] theorem State.sampleLines_cp0_cacheError (s : State) (lines : BitVec 5) : (s.sampleLines lines).cp0.cacheError = s.cp0.cacheError := rfl
@[simp] theorem State.sampleLines_cp0_tagLo (s : State) (lines : BitVec 5) : (s.sampleLines lines).cp0.tagLo = s.cp0.tagLo := rfl
@[simp] theorem State.sampleLines_cp0_tagHi (s : State) (lines : BitVec 5) : (s.sampleLines lines).cp0.tagHi = s.cp0.tagHi := rfl
@[simp] theorem State.sampleLines_cp0_errorEPC (s : State) (lines : BitVec 5) : (s.sampleLines lines).cp0.errorEPC = s.cp0.errorEPC := rfl

@[simp] theorem State.withTimer_cp0_index (s : State) (t : Timer) : (s.withTimer t).cp0.index = s.cp0.index := rfl
@[simp] theorem State.withTimer_cp0_random (s : State) (t : Timer) : (s.withTimer t).cp0.random = s.cp0.random := rfl
@[simp] theorem State.withTimer_cp0_entryLo0 (s : State) (t : Timer) : (s.withTimer t).cp0.entryLo0 = s.cp0.entryLo0 := rfl
@[simp] theorem State.withTimer_cp0_entryLo1 (s : State) (t : Timer) : (s.withTimer t).cp0.entryLo1 = s.cp0.entryLo1 := rfl
@[simp] theorem State.withTimer_cp0_context (s : State) (t : Timer) : (s.withTimer t).cp0.context = s.cp0.context := rfl
@[simp] theorem State.withTimer_cp0_pageMask (s : State) (t : Timer) : (s.withTimer t).cp0.pageMask = s.cp0.pageMask := rfl
@[simp] theorem State.withTimer_cp0_wired (s : State) (t : Timer) : (s.withTimer t).cp0.wired = s.cp0.wired := rfl
@[simp] theorem State.withTimer_cp0_badVAddr (s : State) (t : Timer) : (s.withTimer t).cp0.badVAddr = s.cp0.badVAddr := rfl
@[simp] theorem State.withTimer_cp0_count (s : State) (t : Timer) : (s.withTimer t).cp0.count = t.count := rfl
@[simp] theorem State.withTimer_cp0_entryHi (s : State) (t : Timer) : (s.withTimer t).cp0.entryHi = s.cp0.entryHi := rfl
@[simp] theorem State.withTimer_cp0_compare (s : State) (t : Timer) : (s.withTimer t).cp0.compare = s.cp0.compare := rfl
@[simp] theorem State.withTimer_cp0_status (s : State) (t : Timer) : (s.withTimer t).cp0.status = s.cp0.status := rfl
@[simp] theorem State.withTimer_cp0_cause (s : State) (t : Timer) : (s.withTimer t).cp0.cause = withIp7 s.cp0.cause t.ip7 := rfl
@[simp] theorem State.withTimer_cp0_epc (s : State) (t : Timer) : (s.withTimer t).cp0.epc = s.cp0.epc := rfl
@[simp] theorem State.withTimer_cp0_prId (s : State) (t : Timer) : (s.withTimer t).cp0.prId = s.cp0.prId := rfl
@[simp] theorem State.withTimer_cp0_config (s : State) (t : Timer) : (s.withTimer t).cp0.config = s.cp0.config := rfl
@[simp] theorem State.withTimer_cp0_llAddr (s : State) (t : Timer) : (s.withTimer t).cp0.llAddr = s.cp0.llAddr := rfl
@[simp] theorem State.withTimer_cp0_watchLo (s : State) (t : Timer) : (s.withTimer t).cp0.watchLo = s.cp0.watchLo := rfl
@[simp] theorem State.withTimer_cp0_watchHi (s : State) (t : Timer) : (s.withTimer t).cp0.watchHi = s.cp0.watchHi := rfl
@[simp] theorem State.withTimer_cp0_xContext (s : State) (t : Timer) : (s.withTimer t).cp0.xContext = s.cp0.xContext := rfl
@[simp] theorem State.withTimer_cp0_parityError (s : State) (t : Timer) : (s.withTimer t).cp0.parityError = s.cp0.parityError := rfl
@[simp] theorem State.withTimer_cp0_cacheError (s : State) (t : Timer) : (s.withTimer t).cp0.cacheError = s.cp0.cacheError := rfl
@[simp] theorem State.withTimer_cp0_tagLo (s : State) (t : Timer) : (s.withTimer t).cp0.tagLo = s.cp0.tagLo := rfl
@[simp] theorem State.withTimer_cp0_tagHi (s : State) (t : Timer) : (s.withTimer t).cp0.tagHi = s.cp0.tagHi := rfl
@[simp] theorem State.withTimer_cp0_errorEPC (s : State) (t : Timer) : (s.withTimer t).cp0.errorEPC = s.cp0.errorEPC := rfl

@[simp] theorem State.ticks_cp0_index (s : State) (n : Nat) : (s.ticks n).cp0.index = s.cp0.index := rfl
@[simp] theorem State.ticks_cp0_random (s : State) (n : Nat) : (s.ticks n).cp0.random = s.cp0.random := rfl
@[simp] theorem State.ticks_cp0_entryLo0 (s : State) (n : Nat) : (s.ticks n).cp0.entryLo0 = s.cp0.entryLo0 := rfl
@[simp] theorem State.ticks_cp0_entryLo1 (s : State) (n : Nat) : (s.ticks n).cp0.entryLo1 = s.cp0.entryLo1 := rfl
@[simp] theorem State.ticks_cp0_context (s : State) (n : Nat) : (s.ticks n).cp0.context = s.cp0.context := rfl
@[simp] theorem State.ticks_cp0_pageMask (s : State) (n : Nat) : (s.ticks n).cp0.pageMask = s.cp0.pageMask := rfl
@[simp] theorem State.ticks_cp0_wired (s : State) (n : Nat) : (s.ticks n).cp0.wired = s.cp0.wired := rfl
@[simp] theorem State.ticks_cp0_badVAddr (s : State) (n : Nat) : (s.ticks n).cp0.badVAddr = s.cp0.badVAddr := rfl
@[simp] theorem State.ticks_cp0_count (s : State) (n : Nat) : (s.ticks n).cp0.count = (Timer.ticks s.cp0.compare n s.timer).count := rfl
@[simp] theorem State.ticks_cp0_entryHi (s : State) (n : Nat) : (s.ticks n).cp0.entryHi = s.cp0.entryHi := rfl
@[simp] theorem State.ticks_cp0_compare (s : State) (n : Nat) : (s.ticks n).cp0.compare = s.cp0.compare := rfl
@[simp] theorem State.ticks_cp0_status (s : State) (n : Nat) : (s.ticks n).cp0.status = s.cp0.status := rfl
@[simp] theorem State.ticks_cp0_cause (s : State) (n : Nat) : (s.ticks n).cp0.cause = withIp7 s.cp0.cause (Timer.ticks s.cp0.compare n s.timer).ip7 := rfl
@[simp] theorem State.ticks_cp0_epc (s : State) (n : Nat) : (s.ticks n).cp0.epc = s.cp0.epc := rfl
@[simp] theorem State.ticks_cp0_prId (s : State) (n : Nat) : (s.ticks n).cp0.prId = s.cp0.prId := rfl
@[simp] theorem State.ticks_cp0_config (s : State) (n : Nat) : (s.ticks n).cp0.config = s.cp0.config := rfl
@[simp] theorem State.ticks_cp0_llAddr (s : State) (n : Nat) : (s.ticks n).cp0.llAddr = s.cp0.llAddr := rfl
@[simp] theorem State.ticks_cp0_watchLo (s : State) (n : Nat) : (s.ticks n).cp0.watchLo = s.cp0.watchLo := rfl
@[simp] theorem State.ticks_cp0_watchHi (s : State) (n : Nat) : (s.ticks n).cp0.watchHi = s.cp0.watchHi := rfl
@[simp] theorem State.ticks_cp0_xContext (s : State) (n : Nat) : (s.ticks n).cp0.xContext = s.cp0.xContext := rfl
@[simp] theorem State.ticks_cp0_parityError (s : State) (n : Nat) : (s.ticks n).cp0.parityError = s.cp0.parityError := rfl
@[simp] theorem State.ticks_cp0_cacheError (s : State) (n : Nat) : (s.ticks n).cp0.cacheError = s.cp0.cacheError := rfl
@[simp] theorem State.ticks_cp0_tagLo (s : State) (n : Nat) : (s.ticks n).cp0.tagLo = s.cp0.tagLo := rfl
@[simp] theorem State.ticks_cp0_tagHi (s : State) (n : Nat) : (s.ticks n).cp0.tagHi = s.cp0.tagHi := rfl
@[simp] theorem State.ticks_cp0_errorEPC (s : State) (n : Nat) : (s.ticks n).cp0.errorEPC = s.cp0.errorEPC := rfl

-- General registers.

/-- Two states with the same register file read the same. -/
theorem State.readGpr_congr (s t : State) (h : t.gpr = s.gpr) (r : Reg) : t.readGpr r = s.readGpr r := by
  simp only [State.readGpr, h]

/-- r0 reads 0 (10_state R21). -/
@[simp] theorem State.readGpr_zero (s : State) : s.readGpr 0 = 0 := if_pos rfl

/-- A write to r0 is discarded (10_state R21). -/
theorem State.writeGpr_zero (s : State) (v : Word) : s.writeGpr 0 v = s := if_pos rfl

/-- A register read after a write: the value written, unless another register, or r0, was named (10_state R21). -/
theorem State.readGpr_writeGpr (s : State) (r q : Reg) (v : Word) :
    (s.writeGpr r v).readGpr q = if q = r ∧ r ≠ 0 then v else s.readGpr q := by
  by_cases hr : r = 0
  · subst hr
    rw [State.writeGpr_zero, if_neg (by simp)]
  · by_cases hq : q = 0
    · subst hq
      rw [State.readGpr_zero, State.readGpr_zero, if_neg (fun h => hr h.1.symm)]
    · have hw : s.writeGpr r v = { s with gpr := s.gpr.set r.toNat v r.isLt } := if_neg hr
      rw [hw]
      unfold State.readGpr
      rw [if_neg hq, if_neg hq, Vector.getElem_set]
      by_cases h : q = r
      · rw [if_pos (by rw [h]), if_pos ⟨h, hr⟩]
      · rw [if_neg (fun e => h (BitVec.eq_of_toNat_eq e.symm)), if_neg (fun e => h e.1)]

/-- The register written. -/
theorem State.readGpr_writeGpr_self (s : State) (r : Reg) (v : Word) :
    (s.writeGpr r v).readGpr r = if r = 0 then 0 else v := by
  rw [State.readGpr_writeGpr]
  by_cases hr : r = 0
  · subst hr; rw [if_neg (by simp), if_pos rfl, State.readGpr_zero]
  · rw [if_pos ⟨rfl, hr⟩, if_neg hr]

/-- Every other register. -/
theorem State.readGpr_writeGpr_of_ne (s : State) (r q : Reg) (v : Word) (h : q ≠ r) :
    (s.writeGpr r v).readGpr q = s.readGpr q := by
  rw [State.readGpr_writeGpr, if_neg (fun e => h e.1)]

@[simp] theorem State.readGpr_complete (s : State) (r q : Reg) (v : Word) :
    (s.complete r v).readGpr q = (s.writeGpr r v).readGpr q := rfl
@[simp] theorem State.readGpr_advance (s : State) (r : Reg) : s.advance.readGpr r = s.readGpr r := rfl
@[simp] theorem State.readGpr_branchTo (s : State) (t : Word) (r : Reg) : (s.branchTo t).readGpr r = s.readGpr r := rfl
@[simp] theorem State.readGpr_skipSlot (s : State) (r : Reg) : s.skipSlot.readGpr r = s.readGpr r := rfl
@[simp] theorem State.readGpr_withMem (s : State) (m : Memory) (r : Reg) : (s.withMem m).readGpr r = s.readGpr r := rfl
@[simp] theorem State.readGpr_withCp0 (s : State) (c : Cp0) (r : Reg) : (s.withCp0 c).readGpr r = s.readGpr r := rfl
@[simp] theorem State.readGpr_cp0Write (s : State) (n : Reg) (v : Word) (r : Reg) :
    (s.cp0Write n v).readGpr r = s.readGpr r := rfl
@[simp] theorem State.readGpr_writeTlb (s : State) (i : Fin 32) (e : TlbEntry) (r : Reg) :
    (s.writeTlb i e).readGpr r = s.readGpr r := rfl
@[simp] theorem State.readGpr_takeException (s : State) (e : Exc) (r : Reg) : (s.takeException e).readGpr r = s.readGpr r := rfl
@[simp] theorem State.readGpr_updateRandom (s : State) (r : Reg) : s.updateRandom.readGpr r = s.readGpr r := rfl
@[simp] theorem State.readGpr_sampleLines (s : State) (l : BitVec 5) (r : Reg) : (s.sampleLines l).readGpr r = s.readGpr r := rfl
@[simp] theorem State.readGpr_betweenSteps (s : State) (n : Nat) (r : Reg) : (s.betweenSteps n).readGpr r = s.readGpr r := rfl

end Sys2Proof.Machine
end

