-- ==== Sys2Proof/Laws/Ops.lean ====
section
/-! SUPPORT. One lemma for each shared operation that says once everything it can do. -/

namespace Sys2Proof.Machine

-- Outcomes.

theorem next_inj {s t : State} (h : (Host.Outcome.next s : Host.Outcome State Fault Refusal) = .next t) : t = s := by
  injection h with h
  exact h.symm

/-- How an access that finished in a next state ended. -/
theorem Access.finish_next {α : Type} (a : Access α) (s t : State) (k : α → State) (h : a.finish s k = .next t) :
    (∃ v, a = .ok v ∧ t = k v) ∨ (∃ e, a = .raise e ∧ t = s.takeException e) := by
  cases a with
  | ok v => exact .inl ⟨v, rfl, next_inj h⟩
  | raise e => exact .inr ⟨e, rfl, next_inj h⟩
  | fault f => exact nomatch h
  | refuse r => exact nomatch h

/-- A control transfer that answers a next state. -/
theorem transfer_next (s t u : State) (h : transfer s t = .next u) : s.inDelay = false ∧ u = t := by
  unfold transfer at h
  split at h
  · exact nomatch h
  · next hd => exact ⟨by simpa using hd, next_inj h⟩

/-- Outside a delay slot a control transfer completes. -/
theorem transfer_of_not_inDelay (s t : State) (h : s.inDelay = false) : transfer s t = .next t := by
  simp [transfer, h]

-- Translation and the access primitives.

/-- Translation gives the physical address or nothing. -/
theorem translateAddress_eq_some {vaddr : Word} {pa : PAddr} (h : translateAddress vaddr = some pa) : pa = physicalOf vaddr := by
  unfold translateAddress at h
  split at h
  · injection h with h
    exact h.symm
  · exact nomatch h

/-- MemRead gives a value exactly under its conditions, and then it is the bytes of memory (20_memory R138). -/
theorem memRead_eq_ok_iff (s : State) (vaddr : Word) (w : Width) (v : Word) :
    memRead s vaddr w = .ok v ↔
      statusRe s.cp0.status = false ∧ vaddr.toNat % w.bytes = 0 ∧ translateAddress vaddr = some (physicalOf vaddr) ∧
        coversAll s.physMem (physicalOf vaddr).toNat w.bytes = true ∧
        v = s.mem.readBE (physicalOf vaddr).toNat w.bytes := by
  unfold memRead
  by_cases hre : statusRe s.cp0.status = true
  · simp [hre]
  · have hre' : statusRe s.cp0.status = false := by simpa using hre
    by_cases hal : vaddr.toNat % w.bytes = 0
    · cases ht : translateAddress vaddr with
      | none => simp [hre', hal]
      | some pa =>
        have := translateAddress_eq_some ht
        subst this
        by_cases hc : coversAll s.physMem (physicalOf vaddr).toNat w.bytes = true
        · simp [hre', hal, hc, eq_comm]
        · simp [hre', hal, hc]
    · simp [hre', hal]

/-- The only exception of MemRead is Address Error (load) on a misaligned address (20_memory R141). -/
theorem memRead_eq_raise_iff (s : State) (vaddr : Word) (w : Width) (e : Exc) :
    memRead s vaddr w = .raise e ↔
      statusRe s.cp0.status = false ∧ vaddr.toNat % w.bytes ≠ 0 ∧ e = .addressErrorLoad vaddr := by
  unfold memRead
  by_cases hre : statusRe s.cp0.status = true
  · simp [hre]
  · have hre' : statusRe s.cp0.status = false := by simpa using hre
    by_cases hal : vaddr.toNat % w.bytes = 0
    · cases ht : translateAddress vaddr with
      | none => simp [hre', hal]
      | some pa =>
        by_cases hc : coversAll s.physMem pa.toNat w.bytes = true <;> simp [hre', hal, hc]
    · simp [hre', hal, eq_comm]

/-- MemWrite gives a memory exactly under its conditions, and then it is the bytes written (20_memory R139, R154). -/
theorem memWrite_eq_ok_iff (s : State) (vaddr : Word) (w : Width) (v : Word) (m : Memory) :
    memWrite s vaddr w v = .ok m ↔
      statusRe s.cp0.status = false ∧ vaddr.toNat % w.bytes = 0 ∧ translateAddress vaddr = some (physicalOf vaddr) ∧
        coversAll s.physMem (physicalOf vaddr).toNat w.bytes = true ∧
        touchesAny s.programText (physicalOf vaddr).toNat w.bytes = false ∧
        m = s.mem.writeBE (physicalOf vaddr).toNat w.bytes v := by
  unfold memWrite
  by_cases hre : statusRe s.cp0.status = true
  · simp [hre]
  · have hre' : statusRe s.cp0.status = false := by simpa using hre
    by_cases hal : vaddr.toNat % w.bytes = 0
    · cases ht : translateAddress vaddr with
      | none => simp [hre', hal]
      | some pa =>
        have := translateAddress_eq_some ht
        subst this
        by_cases hc : coversAll s.physMem (physicalOf vaddr).toNat w.bytes = true
        · by_cases hp : touchesAny s.programText (physicalOf vaddr).toNat w.bytes = true
          · simp [hre', hal, hc, hp]
          · simp [hre', hal, hc, hp, eq_comm]
        · simp [hre', hal, hc]
    · simp [hre', hal]

/-- The only exception of MemWrite is Address Error (store) on a misaligned address (20_memory R141). -/
theorem memWrite_eq_raise_iff (s : State) (vaddr : Word) (w : Width) (v : Word) (e : Exc) :
    memWrite s vaddr w v = .raise e ↔
      statusRe s.cp0.status = false ∧ vaddr.toNat % w.bytes ≠ 0 ∧ e = .addressErrorStore vaddr := by
  unfold memWrite
  by_cases hre : statusRe s.cp0.status = true
  · simp [hre]
  · have hre' : statusRe s.cp0.status = false := by simpa using hre
    by_cases hal : vaddr.toNat % w.bytes = 0
    · cases ht : translateAddress vaddr with
      | none => simp [hre', hal]
      | some pa =>
        by_cases hc : coversAll s.physMem pa.toNat w.bytes = true
        · by_cases hp : touchesAny s.programText pa.toNat w.bytes = true <;> simp [hre', hal, hc, hp]
        · simp [hre', hal, hc]
    · simp [hre', hal, eq_comm]

/-- A load's access gives a value exactly when the state is ready for it, and then it is the bytes of memory. -/
theorem loadAccess_eq_ok_iff (s : State) (vaddr : Word) (w : Width) (v : Word) :
    loadAccess s vaddr w = .ok v ↔ LoadReady s vaddr w ∧ v = s.mem.readBE (physicalOf vaddr).toNat w.bytes := by
  unfold loadAccess LoadReady
  constructor
  · intro h
    cases hm : memRead s vaddr w with
    | ok x =>
      rw [hm] at h
      dsimp only at h
      split at h
      · exact nomatch h
      · next hw =>
        injection h with h
        subst h
        obtain ⟨h1, h2, h3, h4, h5⟩ := (memRead_eq_ok_iff _ _ _ _).mp hm
        exact ⟨⟨h1, h2, h3, h4, by simpa using hw⟩, h5⟩
    | raise e => rw [hm] at h; exact nomatch h
    | fault f => rw [hm] at h; exact nomatch h
    | refuse r => rw [hm] at h; exact nomatch h
  · rintro ⟨⟨h1, h2, h3, h4, h5⟩, rfl⟩
    rw [(memRead_eq_ok_iff _ _ _ _).mpr ⟨h1, h2, h3, h4, rfl⟩]
    simp [h5]

/-- A load's only exception (43_load_store R261). -/
theorem loadAccess_eq_raise_iff (s : State) (vaddr : Word) (w : Width) (e : Exc) :
    loadAccess s vaddr w = .raise e ↔
      statusRe s.cp0.status = false ∧ vaddr.toNat % w.bytes ≠ 0 ∧ e = .addressErrorLoad vaddr := by
  rw [← memRead_eq_raise_iff]
  unfold loadAccess
  cases memRead s vaddr w with
  | ok x => dsimp only; split <;> simp
  | raise e => simp
  | fault f => simp
  | refuse r => simp

/-- A store's access gives a memory exactly when the state is ready for it, and then it is the bytes written. -/
theorem storeAccess_eq_ok_iff (s : State) (vaddr : Word) (w : Width) (v : Word) (m : Memory) :
    storeAccess s vaddr w v = .ok m ↔ StoreReady s vaddr w ∧ m = s.mem.writeBE (physicalOf vaddr).toNat w.bytes v := by
  unfold storeAccess StoreReady
  constructor
  · intro h
    cases hm : memWrite s vaddr w v with
    | ok x =>
      rw [hm] at h
      dsimp only at h
      split at h
      · exact nomatch h
      · next hw =>
        injection h with h
        subst h
        obtain ⟨h1, h2, h3, h4, h5, h6⟩ := (memWrite_eq_ok_iff _ _ _ _ _).mp hm
        exact ⟨⟨h1, h2, h3, h4, h5, by simpa using hw⟩, h6⟩
    | raise e => rw [hm] at h; exact nomatch h
    | fault f => rw [hm] at h; exact nomatch h
    | refuse r => rw [hm] at h; exact nomatch h
  · rintro ⟨⟨h1, h2, h3, h4, h5, h6⟩, rfl⟩
    rw [(memWrite_eq_ok_iff _ _ _ _ _).mpr ⟨h1, h2, h3, h4, h5, rfl⟩]
    simp [h6]

/-- A store's only exception (43_load_store R261). -/
theorem storeAccess_eq_raise_iff (s : State) (vaddr : Word) (w : Width) (v : Word) (e : Exc) :
    storeAccess s vaddr w v = .raise e ↔
      statusRe s.cp0.status = false ∧ vaddr.toNat % w.bytes ≠ 0 ∧ e = .addressErrorStore vaddr := by
  rw [← memWrite_eq_raise_iff s vaddr w v]
  unfold storeAccess
  cases memWrite s vaddr w v with
  | ok x => dsimp only; split <;> simp
  | raise e => simp
  | fault f => simp
  | refuse r => simp

/-- What a load that answers a next state did. -/
theorem load_next (w : Width) (ext : Width → Word → Word) (rt base : Reg) (off : BitVec 16) (s t : State)
    (h : load w ext rt base off s = .next t) :
    (LoadReady s (s.effectiveAddress base off) w ∧
      t = s.complete rt (ext w (s.mem.readBE (physicalOf (s.effectiveAddress base off)).toNat w.bytes))) ∨
    ((s.effectiveAddress base off).toNat % w.bytes ≠ 0 ∧
      t = s.takeException (.addressErrorLoad (s.effectiveAddress base off))) := by
  rcases Access.finish_next _ _ _ _ h with ⟨v, hv, rfl⟩ | ⟨e, he, rfl⟩
  · obtain ⟨hr, rfl⟩ := (loadAccess_eq_ok_iff _ _ _ _).mp hv
    exact .inl ⟨hr, rfl⟩
  · obtain ⟨-, hm, rfl⟩ := (loadAccess_eq_raise_iff _ _ _ _).mp he
    exact .inr ⟨hm, rfl⟩

/-- What a store that answers a next state did. -/
theorem store_next (w : Width) (rt base : Reg) (off : BitVec 16) (s t : State) (h : store w rt base off s = .next t) :
    (StoreReady s (s.effectiveAddress base off) w ∧
      t = (s.withMem (s.mem.writeBE (physicalOf (s.effectiveAddress base off)).toNat w.bytes (s.readGpr rt))).advance) ∨
    ((s.effectiveAddress base off).toNat % w.bytes ≠ 0 ∧
      t = s.takeException (.addressErrorStore (s.effectiveAddress base off))) := by
  rcases Access.finish_next _ _ _ _ h with ⟨v, hv, rfl⟩ | ⟨e, he, rfl⟩
  · obtain ⟨hr, rfl⟩ := (storeAccess_eq_ok_iff _ _ _ _ _).mp hv
    exact .inl ⟨hr, rfl⟩
  · obtain ⟨-, hm, rfl⟩ := (storeAccess_eq_raise_iff _ _ _ _ _).mp he
    exact .inr ⟨hm, rfl⟩

/-- The CP1 class answers a next state only with cu1 = 0, and it is the entry (44_cp1_class R280). -/
theorem cp1Gate_next (s t : State) (h : cp1Gate s = .next t) :
    statusCu1 s.cp0.status = false ∧ t = s.takeException (.coprocessorUnusable 1) := by
  unfold cp1Gate at h
  split at h
  · exact nomatch h
  · next hc => exact ⟨by simpa using hc, next_inj h⟩

/-- ERET's two forms (40_cp0_instructions R206). -/
theorem returnFromException_cases (s : State) :
    (statusErl s.cp0.status = true ∧ s.returnFromException =
      { s with pc := s.cp0.errorEPC, npc := s.cp0.errorEPC + 4, inDelay := false, llBit := false,
               cp0 := { s.cp0 with status := withErl s.cp0.status false } }) ∨
    (statusErl s.cp0.status = false ∧ s.returnFromException =
      { s with pc := s.cp0.epc, npc := s.cp0.epc + 4, inDelay := false, llBit := false,
               cp0 := { s.cp0 with status := withExl s.cp0.status false } }) := by
  cases h : statusErl s.cp0.status
  · exact .inr ⟨rfl, by simp [State.returnFromException, h]⟩
  · exact .inl ⟨rfl, by simp [State.returnFromException, h]⟩

/-- A write through its own mask keeps the fixed bits of a register (10_state R32). -/
theorem HoldsFixed.maskedWrite {w : Nat} {r mask fixed : BitVec w} (v : BitVec w) (h : HoldsFixed r mask fixed) :
    HoldsFixed (maskedWrite r v mask) mask fixed := by
  unfold HoldsFixed at *
  rw [maskedWrite_and_of_disjoint _ _ _ _ (by simp), h]

/-- A use of Random with Wired above 31 is at most 63 (log 9). -/
theorem randomUse_lt_of_wired (s : State) (h : 31 < (wiredField s.cp0).toNat) : randomUse s < 64 := by
  unfold randomUse
  dsimp only
  rw [if_pos h]
  exact Nat.mod_lt _ (by omega)

/-- A use of Random in range (10_state R38, R39): from Wired to 31, in exact mode the counter. -/
theorem randomUse_in_range (s : State) (h : RandomInRange s) (hw : (wiredField s.cp0).toNat ≤ 31) :
    (wiredField s.cp0).toNat ≤ randomUse s ∧ randomUse s ≤ 31 ∧
      (Config.randomMode = .exact → randomUse s = (randomField s.cp0).toNat) := by
  unfold randomUse
  dsimp only
  rw [if_neg (by omega)]
  have hr := h.2 hw
  cases Config.randomMode with
  | draw =>
    simp only [drawFrom]
    have := Nat.mod_lt (Config.randomDraw s.time) (show 0 < 32 - (wiredField s.cp0).toNat by omega)
    exact ⟨by omega, by omega, by simp⟩
  | exact => exact ⟨hr, h.1, fun _ => rfl⟩

end Sys2Proof.Machine
end

