-- ==== Sys2Proof/Laws/Exec.lean ====
section
/-! SUPPORT. What an instruction, and what a step, can do: one inversion lemma each, from which the invariants follow without
unfolding the machine. -/

namespace Sys2Proof.Machine

/-- Everything the 32-bit addition can give: on canonical operands the sign-extended sum of the low halves, on others a sign-extended
free value. -/
theorem sum32_cases (s : State) (canonical : Bool) (a b : Word) :
    (canonical = true ∧ sum32 s canonical a b = sext64 (low32 a + low32 b)) ∨
      (canonical = false ∧ sum32 s canonical a b = sext64 (Config.nonCanonicalSum s.time)) := by
  cases canonical
  · exact .inr ⟨rfl, rfl⟩
  · exact .inl ⟨rfl, rfl⟩

/-- Everything an instruction that answers a next state can have done. -/
inductive Effect (i : Instr) (s : State) : State → Prop where
  /-- wrote one general register and advanced -/
  | wroteGpr (r : Reg) (v : Word) : Effect i s (s.complete r v)
  /-- wrote one CP0 register and advanced -/
  | wroteCp0 (rd : Reg) (v : Word) : cp0Destination i = some rd → Effect i s (s.cp0Write rd v).advance
  /-- TLBWR -/
  | wroteTlb (h : randomUse s < 32) : i = .tlbwr → Effect i s (s.writeTlb ⟨randomUse s, h⟩ (tlbImage s.cp0)).advance
  /-- ERET -/
  | returned : i = .eret → s.inDelay = false → Effect i s s.returnFromException
  /-- a branch or jump, its slot to come -/
  | branched (r : Reg) (v target : Word) : isControlTransfer i = true → i ≠ .eret → s.inDelay = false →
      Effect i s ((s.writeGpr r v).branchTo target)
  /-- a branch-likely not taken -/
  | skipped (r : Reg) (v : Word) : isControlTransfer i = true → i ≠ .eret → s.inDelay = false →
      Effect i s (s.writeGpr r v).skipSlot
  /-- a store -/
  | stored (w : Width) (vaddr v : Word) : StoreReady s vaddr w →
      Effect i s (s.withMem (s.mem.writeBE (physicalOf vaddr).toNat w.bytes v)).advance
  /-- an Address Error on a load or a store -/
  | misaligned (e : Exc) (vaddr : Word) : e = .addressErrorLoad vaddr ∨ e = .addressErrorStore vaddr →
      Effect i s (s.takeException e)
  /-- Coprocessor Unusable -/
  | unusable : isCp1Class i = true → statusCu1 s.cp0.status = false →
      Effect i s (s.takeException (.coprocessorUnusable 1))

theorem Effect.ofLoad {i : Instr} {s t : State} {w : Width} {ext : Width → Word → Word} {rt base : Reg} {off : BitVec 16}
    (h : load w ext rt base off s = .next t) : Effect i s t := by
  rcases load_next _ _ _ _ _ _ _ h with ⟨-, rfl⟩ | ⟨-, rfl⟩
  · exact .wroteGpr _ _
  · exact .misaligned _ _ (.inl rfl)

theorem Effect.ofStore {i : Instr} {s t : State} {w : Width} {rt base : Reg} {off : BitVec 16}
    (h : store w rt base off s = .next t) : Effect i s t := by
  rcases store_next _ _ _ _ _ _ h with ⟨hr, rfl⟩ | ⟨-, rfl⟩
  · exact .stored _ _ _ hr
  · exact .misaligned _ _ (.inr rfl)

theorem Effect.ofBranchIf {i : Instr} {s t u : State} {c : Bool} {tgt : Word} {r : Reg} {v : Word}
    (hu : u = s.writeGpr r v) (hi : isControlTransfer i = true) (hne : i ≠ .eret)
    (h : transfer s (u.branchIf c tgt) = .next t) : Effect i s t := by
  obtain ⟨hd, rfl⟩ := transfer_next _ _ _ h
  subst hu
  exact .branched _ _ _ hi hne hd

theorem Effect.ofBranchLikelyIf {i : Instr} {s t u : State} {c : Bool} {tgt : Word} {r : Reg} {v : Word}
    (hu : u = s.writeGpr r v) (hi : isControlTransfer i = true) (hne : i ≠ .eret)
    (h : transfer s (u.branchLikelyIf c tgt) = .next t) : Effect i s t := by
  obtain ⟨hd, rfl⟩ := transfer_next _ _ _ h
  subst hu
  unfold State.branchLikelyIf
  split
  · exact .branched _ _ _ hi hne hd
  · exact .skipped _ _ hi hne hd

theorem Effect.ofJump {i : Instr} {s t u : State} {tgt : Word} {r : Reg} {v : Word}
    (hu : u = s.writeGpr r v) (hi : isControlTransfer i = true) (hne : i ≠ .eret)
    (h : transfer s (u.branchTo tgt) = .next t) : Effect i s t := by
  obtain ⟨hd, rfl⟩ := transfer_next _ _ _ h
  subst hu
  exact .branched _ _ _ hi hne hd

theorem Effect.ofCp1 {i : Instr} {s t : State} (hi : isCp1Class i = true) (h : cp1Gate s = .next t) : Effect i s t := by
  obtain ⟨hc, rfl⟩ := cp1Gate_next _ _ h
  exact .unusable hi hc

/-- What an instruction can do. -/
theorem exec_next_effect (i : Instr) (s t : State) (h : exec i s = .next t) : Effect i s t := by
  have w0 : s = s.writeGpr 0 0 := (State.writeGpr_zero s 0).symm
  cases i with
  | mfc0 rt rd => rw [next_inj h]; exact .wroteGpr _ _
  | dmfc0 rt rd => rw [next_inj h]; exact .wroteGpr _ _
  | mtc0 rt rd => rw [next_inj h]; exact .wroteCp0 _ _ rfl
  | dmtc0 rt rd => rw [next_inj h]; exact .wroteCp0 _ _ rfl
  | tlbwr =>
    have h' : execTlbwr s = .next t := h
    unfold execTlbwr at h'
    dsimp only at h'
    split at h'
    · next hi => rw [next_inj h']; exact .wroteTlb hi rfl
    · exact nomatch h'
  | eret =>
    have h' : execEret s = .next t := h
    unfold execEret at h'
    split at h'
    · exact nomatch h'
    · next hd => rw [next_inj h']; exact .returned rfl (by simpa using hd)
  | j target => exact .ofJump w0 rfl (by simp) h
  | jal target => exact .ofJump rfl rfl (by simp) h
  | jr rs => exact .ofJump w0 rfl (by simp) h
  | jalr rd rs => exact .ofJump rfl rfl (by simp) h
  | beq rs rt imm => exact .ofBranchIf w0 rfl (by simp) h
  | bne rs rt imm => exact .ofBranchIf w0 rfl (by simp) h
  | bltzal rs imm => exact .ofBranchIf rfl rfl (by simp) h
  | bgezal rs imm => exact .ofBranchIf rfl rfl (by simp) h
  | bltzall rs imm => exact .ofBranchLikelyIf rfl rfl (by simp) h
  | bgezall rs imm => exact .ofBranchLikelyIf rfl rfl (by simp) h
  | sll rd rt sa => rw [next_inj h]; exact .wroteGpr _ _
  | addu rd rs rt => rw [next_inj h]; exact .wroteGpr _ _
  | daddu rd rs rt => rw [next_inj h]; exact .wroteGpr _ _
  | and rd rs rt => rw [next_inj h]; exact .wroteGpr _ _
  | or rd rs rt => rw [next_inj h]; exact .wroteGpr _ _
  | addiu rt rs imm => rw [next_inj h]; exact .wroteGpr _ _
  | daddiu rt rs imm => rw [next_inj h]; exact .wroteGpr _ _
  | andi rt rs imm => rw [next_inj h]; exact .wroteGpr _ _
  | ori rt rs imm => rw [next_inj h]; exact .wroteGpr _ _
  | lui rt imm => rw [next_inj h]; exact .wroteGpr _ _
  | lb rt base offset => exact .ofLoad h
  | lbu rt base offset => exact .ofLoad h
  | lh rt base offset => exact .ofLoad h
  | lhu rt base offset => exact .ofLoad h
  | lw rt base offset => exact .ofLoad h
  | lwu rt base offset => exact .ofLoad h
  | ld rt base offset => exact .ofLoad h
  | sb rt base offset => exact .ofStore h
  | sh rt base offset => exact .ofStore h
  | sw rt base offset => exact .ofStore h
  | sd rt base offset => exact .ofStore h
  | cop1 cofun => exact .ofCp1 rfl h
  | lwc1 ft base offset => exact .ofCp1 rfl h
  | ldc1 ft base offset => exact .ofCp1 rfl h
  | swc1 ft base offset => exact .ofCp1 rfl h
  | sdc1 ft base offset => exact .ofCp1 rfl h

-- The step.

/-- What the clauses before execution found, if they let an instruction run (60_exceptions R300). -/
theorem front_execute (s : State) (i : Instr) (h : front s = .execute i) :
    effectiveMode s.cp0.status = .kernel ∧ interruptTaken s.cp0.status s.cp0.cause = false ∧
      ∃ w, fetch s = .ok w ∧ decode w = .ok i := by
  unfold front at h
  split at h
  · exact nomatch h
  · next hm =>
    split at h
    · exact nomatch h
    · next hi =>
      refine ⟨by simpa using hm, by simpa using hi, ?_⟩
      cases hf : fetch s with
      | raise e => rw [hf] at h; exact nomatch h
      | fault f => rw [hf] at h; exact nomatch h
      | refuse r => rw [hf] at h; exact nomatch h
      | ok w =>
        rw [hf] at h
        dsimp only at h
        refine ⟨w, rfl, ?_⟩
        cases hd : decode w with
        | error e => rw [hd] at h; exact nomatch h
        | ok j =>
          rw [hd] at h
          injection h with h
          rw [h]

/-- The only exception before execution is Address Error on a misaligned pc (20_memory R140). -/
theorem front_raise (s : State) (e : Exc) (h : front s = .raise e) :
    effectiveMode s.cp0.status = .kernel ∧ interruptTaken s.cp0.status s.cp0.cause = false ∧
      s.pc.toNat % 4 ≠ 0 ∧ e = .addressErrorLoad s.pc := by
  unfold front at h
  split at h
  · exact nomatch h
  · next hm =>
    split at h
    · exact nomatch h
    · next hi =>
      refine ⟨by simpa using hm, by simpa using hi, ?_⟩
      unfold fetch at h
      cases hf : memRead s s.pc .word with
      | raise e' =>
        rw [hf] at h
        injection h with h
        subst h
        exact ((memRead_eq_raise_iff _ _ _ _).mp hf).2
      | fault f => rw [hf] at h; exact nomatch h
      | refuse r => rw [hf] at h; exact nomatch h
      | ok w =>
        rw [hf] at h
        dsimp only at h
        split at h
        · next hd => split at hd <;> exact nomatch hd
        · exact nomatch h
        · exact nomatch h
        · split at h <;> exact nomatch h

/-- An interrupt found before the fetch (60_exceptions R306). -/
theorem front_interrupt (s : State) (h : front s = .interrupt) :
    effectiveMode s.cp0.status = .kernel ∧ interruptTaken s.cp0.status s.cp0.cause = true := by
  unfold front at h
  split at h
  · exact nomatch h
  · next hm =>
    split at h
    · next hi => exact ⟨by simpa using hm, hi⟩
    · split at h
      · exact nomatch h
      · exact nomatch h
      · exact nomatch h
      · split at h <;> exact nomatch h

/-- What the processor's clauses 1 to 8 can do: take an interrupt, take a fetch exception, or run an instruction. -/
theorem process_next (s t : State) (h : process s = .next t) :
    (front s = .interrupt ∧ t = s.takeException .interrupt) ∨
    (∃ e, front s = .raise e ∧ t = (s.takeException e).updateRandom) ∨
    (∃ i u, front s = .execute i ∧ exec i s = .next u ∧ t = u.updateRandom) := by
  unfold process at h
  cases hf : front s with
  | interrupt => rw [hf] at h; exact .inl ⟨rfl, next_inj h⟩
  | raise e => rw [hf] at h; exact .inr (.inl ⟨e, rfl, next_inj h⟩)
  | fault f => rw [hf] at h; exact nomatch h
  | refuse r => rw [hf] at h; exact nomatch h
  | execute i =>
    rw [hf] at h
    dsimp only at h
    cases he : exec i s with
    | next u => rw [he] at h; exact .inr (.inr ⟨i, u, rfl, he, next_inj h⟩)
    | fault f => rw [he] at h; exact nomatch h
    | refused r => rw [he] at h; exact nomatch h

/-- A step is a processor step on the sampled state, then the ticks. -/
theorem step_next (s t : State) (h : step s = .next t) :
    ∃ u, process (s.sampleLines (Config.extIP s.time)) = .next u ∧ t = u.betweenSteps (Config.tickSchedule s.time) := by
  unfold step stepWith cycle at h
  cases hp : process (s.sampleLines (Config.extIP s.time)) with
  | next u => rw [hp] at h; exact ⟨u, rfl, next_inj h⟩
  | fault f => rw [hp] at h; exact nomatch h
  | refused r => rw [hp] at h; exact nomatch h

-- The sampled state.

@[simp] theorem State.sampled_gpr (s : State) : s.sampled.gpr = s.gpr := rfl
@[simp] theorem State.sampled_pc (s : State) : s.sampled.pc = s.pc := rfl
@[simp] theorem State.sampled_npc (s : State) : s.sampled.npc = s.npc := rfl
@[simp] theorem State.sampled_inDelay (s : State) : s.sampled.inDelay = s.inDelay := rfl
@[simp] theorem State.sampled_countHalf (s : State) : s.sampled.countHalf = s.countHalf := rfl
@[simp] theorem State.sampled_llBit (s : State) : s.sampled.llBit = s.llBit := rfl
@[simp] theorem State.sampled_fpr (s : State) : s.sampled.fpr = s.fpr := rfl
@[simp] theorem State.sampled_tlb (s : State) : s.sampled.tlb = s.tlb := rfl
@[simp] theorem State.sampled_mem (s : State) : s.sampled.mem = s.mem := rfl
@[simp] theorem State.sampled_physMem (s : State) : s.sampled.physMem = s.physMem := rfl
@[simp] theorem State.sampled_programText (s : State) : s.sampled.programText = s.programText := rfl
@[simp] theorem State.sampled_params (s : State) : s.sampled.params = s.params := rfl
@[simp] theorem State.sampled_time (s : State) : s.sampled.time = s.time := rfl
@[simp] theorem State.sampled_cp0 (s : State) :
    s.sampled.cp0 = { s.cp0 with cause := withLines s.cp0.cause (Config.extIP s.time) } := rfl
@[simp] theorem State.readGpr_sampled (s : State) (r : Reg) : s.sampled.readGpr r = s.readGpr r := rfl

/-- Everything a step that answers a next state can have done: an interrupt's entry, the entry of a fetch exception with the update
of Random, or an instruction's effect with the update of Random; then the ticks. -/
theorem step_cases (s t : State) (h : step s = .next t) :
    ∃ u, t = u.betweenSteps (Config.tickSchedule s.time) ∧
      ((TakesInterrupt s ∧ u = s.sampled.takeException .interrupt) ∨
       (∃ e, front s.sampled = .raise e ∧ u = (s.sampled.takeException e).updateRandom) ∨
       (∃ i v, Executes s i ∧ Effect i s.sampled v ∧ u = v.updateRandom)) := by
  obtain ⟨u, hu, rfl⟩ := step_next _ _ h
  refine ⟨u, rfl, ?_⟩
  rcases process_next _ _ hu with ⟨h1, h2⟩ | ⟨e, h1, h2⟩ | ⟨i, v, h1, h2, h3⟩
  · exact .inl ⟨h1, h2⟩
  · exact .inr (.inl ⟨e, h1, h2⟩)
  · exact .inr (.inr ⟨i, v, h1, exec_next_effect _ _ _ h2, h3⟩)

end Sys2Proof.Machine
end

