-- ==== Sys2Proof/Laws/PerInstr.lean ====
section
/-! SUPPORT. A law of every instruction as syntax: the major opcode of its word is the one 30_encoding R178 to R181 list. -/

namespace Sys2Proof.Laws.MajorOpcode

/-- The major opcodes of the table (30_encoding R178). -/
def majorOpcode : Instr → BitVec 6
  | .mfc0 _ _ | .dmfc0 _ _ | .mtc0 _ _ | .dmtc0 _ _ | .tlbwr | .eret => 0x10
  | .j _ => 0x02
  | .jal _ => 0x03
  | .jr _ | .jalr _ _ | .sll _ _ _ | .addu _ _ _ | .daddu _ _ _ | .and _ _ _ | .or _ _ _ => 0x00
  | .beq _ _ _ => 0x04
  | .bne _ _ _ => 0x05
  | .bltzal _ _ | .bgezal _ _ | .bltzall _ _ | .bgezall _ _ => 0x01
  | .addiu _ _ _ => 0x09
  | .daddiu _ _ _ => 0x19
  | .andi _ _ _ => 0x0C
  | .ori _ _ _ => 0x0D
  | .lui _ _ => 0x0F
  | .lb _ _ _ => 0x20
  | .lbu _ _ _ => 0x24
  | .lh _ _ _ => 0x21
  | .lhu _ _ _ => 0x25
  | .lw _ _ _ => 0x23
  | .lwu _ _ _ => 0x27
  | .ld _ _ _ => 0x37
  | .sb _ _ _ => 0x28
  | .sh _ _ _ => 0x29
  | .sw _ _ _ => 0x2B
  | .sd _ _ _ => 0x3F
  | .cop1 _ => 0x11
  | .lwc1 _ _ _ => 0x31
  | .ldc1 _ _ _ => 0x35
  | .swc1 _ _ _ => 0x39
  | .sdc1 _ _ _ => 0x3D

-- The major opcode of each format (30_encoding R171, R172).

theorem encodeI_major (op : BitVec 6) (rs rt : Reg) (imm : BitVec 16) : (encodeI op rs rt imm).extractLsb' 26 6 = op := by
  apply BitVec.eq_of_getLsbD_eq
  intro i hi
  simp only [encodeI, BitVec.getLsbD_extractLsb', BitVec.getLsbD_append, hi, show ¬ 26 + i < 16 by omega,
    show ¬ 26 + i - 16 < 5 by omega, show ¬ 26 + i - 16 - 5 < 5 by omega, show 26 + i - 16 - 5 - 5 = i by omega]
  simp

theorem encodeJ_major (op : BitVec 6) (target : BitVec 26) : (encodeJ op target).extractLsb' 26 6 = op := by
  apply BitVec.eq_of_getLsbD_eq
  intro i hi
  simp only [encodeJ, BitVec.getLsbD_extractLsb', BitVec.getLsbD_append, hi, show ¬ 26 + i < 26 by omega,
    show 26 + i - 26 = i by omega]
  simp

theorem encodeR_major (rs rt rd : Reg) (sa : BitVec 5) (funct : BitVec 6) :
    (encodeR rs rt rd sa funct).extractLsb' 26 6 = 0 := by
  apply BitVec.eq_of_getLsbD_eq
  intro i hi
  simp only [encodeR, BitVec.getLsbD_extractLsb', BitVec.getLsbD_append, hi, show ¬ 26 + i < 6 by omega,
    show ¬ 26 + i - 6 < 5 by omega, show ¬ 26 + i - 6 - 5 < 5 by omega, show ¬ 26 + i - 6 - 5 - 5 < 5 by omega,
    show ¬ 26 + i - 6 - 5 - 5 - 5 < 5 by omega]
  simp

theorem encodeCp0Move_major (sub : BitVec 5) (rt rd : Reg) : (encodeCp0Move sub rt rd).extractLsb' 26 6 = 0x10 := by
  apply BitVec.eq_of_getLsbD_eq
  intro i hi
  simp only [encodeCp0Move, BitVec.getLsbD_extractLsb', BitVec.getLsbD_append, hi, show ¬ 26 + i < 11 by omega,
    show ¬ 26 + i - 11 < 5 by omega, show ¬ 26 + i - 11 - 5 < 5 by omega, show ¬ 26 + i - 11 - 5 - 5 < 5 by omega,
    show 26 + i - 11 - 5 - 5 - 5 = i by omega]
  simp

/-- The word of the instruction has its major opcode in bits 31:26. -/
def Statement (i : Sys2Proof.Instr) : Prop := (encode i).extractLsb' 26 6 = majorOpcode i

theorem mfc0 (rt rd : Reg) : Statement (.mfc0 rt rd) := encodeCp0Move_major _ _ _

theorem dmfc0 (rt rd : Reg) : Statement (.dmfc0 rt rd) := encodeCp0Move_major _ _ _

theorem mtc0 (rt rd : Reg) : Statement (.mtc0 rt rd) := encodeCp0Move_major _ _ _

theorem dmtc0 (rt rd : Reg) : Statement (.dmtc0 rt rd) := encodeCp0Move_major _ _ _

theorem tlbwr : Statement .tlbwr := by show (encode .tlbwr).extractLsb' 26 6 = majorOpcode .tlbwr; decide

theorem eret : Statement .eret := by show (encode .eret).extractLsb' 26 6 = majorOpcode .eret; decide

theorem j (target : BitVec 26) : Statement (.j target) := encodeJ_major _ _

theorem jal (target : BitVec 26) : Statement (.jal target) := encodeJ_major _ _

theorem jr (rs : Reg) : Statement (.jr rs) := encodeR_major _ _ _ _ _

theorem jalr (rd rs : Reg) : Statement (.jalr rd rs) := encodeR_major _ _ _ _ _

theorem beq (rs rt : Reg) (imm : BitVec 16) : Statement (.beq rs rt imm) := encodeI_major _ _ _ _

theorem bne (rs rt : Reg) (imm : BitVec 16) : Statement (.bne rs rt imm) := encodeI_major _ _ _ _

theorem bltzal (rs : Reg) (imm : BitVec 16) : Statement (.bltzal rs imm) := encodeI_major _ _ _ _

theorem bgezal (rs : Reg) (imm : BitVec 16) : Statement (.bgezal rs imm) := encodeI_major _ _ _ _

theorem bltzall (rs : Reg) (imm : BitVec 16) : Statement (.bltzall rs imm) := encodeI_major _ _ _ _

theorem bgezall (rs : Reg) (imm : BitVec 16) : Statement (.bgezall rs imm) := encodeI_major _ _ _ _

theorem sll (rd rt : Reg) (sa : BitVec 5) : Statement (.sll rd rt sa) := encodeR_major _ _ _ _ _

theorem addu (rd rs rt : Reg) : Statement (.addu rd rs rt) := encodeR_major _ _ _ _ _

theorem daddu (rd rs rt : Reg) : Statement (.daddu rd rs rt) := encodeR_major _ _ _ _ _

theorem and (rd rs rt : Reg) : Statement (.and rd rs rt) := encodeR_major _ _ _ _ _

theorem or (rd rs rt : Reg) : Statement (.or rd rs rt) := encodeR_major _ _ _ _ _

theorem addiu (rt rs : Reg) (imm : BitVec 16) : Statement (.addiu rt rs imm) := encodeI_major _ _ _ _

theorem daddiu (rt rs : Reg) (imm : BitVec 16) : Statement (.daddiu rt rs imm) := encodeI_major _ _ _ _

theorem andi (rt rs : Reg) (imm : BitVec 16) : Statement (.andi rt rs imm) := encodeI_major _ _ _ _

theorem ori (rt rs : Reg) (imm : BitVec 16) : Statement (.ori rt rs imm) := encodeI_major _ _ _ _

theorem lui (rt : Reg) (imm : BitVec 16) : Statement (.lui rt imm) := encodeI_major _ _ _ _

theorem lb (rt base : Reg) (offset : BitVec 16) : Statement (.lb rt base offset) := encodeI_major _ _ _ _

theorem lbu (rt base : Reg) (offset : BitVec 16) : Statement (.lbu rt base offset) := encodeI_major _ _ _ _

theorem lh (rt base : Reg) (offset : BitVec 16) : Statement (.lh rt base offset) := encodeI_major _ _ _ _

theorem lhu (rt base : Reg) (offset : BitVec 16) : Statement (.lhu rt base offset) := encodeI_major _ _ _ _

theorem lw (rt base : Reg) (offset : BitVec 16) : Statement (.lw rt base offset) := encodeI_major _ _ _ _

theorem lwu (rt base : Reg) (offset : BitVec 16) : Statement (.lwu rt base offset) := encodeI_major _ _ _ _

theorem ld (rt base : Reg) (offset : BitVec 16) : Statement (.ld rt base offset) := encodeI_major _ _ _ _

theorem sb (rt base : Reg) (offset : BitVec 16) : Statement (.sb rt base offset) := encodeI_major _ _ _ _

theorem sh (rt base : Reg) (offset : BitVec 16) : Statement (.sh rt base offset) := encodeI_major _ _ _ _

theorem sw (rt base : Reg) (offset : BitVec 16) : Statement (.sw rt base offset) := encodeI_major _ _ _ _

theorem sd (rt base : Reg) (offset : BitVec 16) : Statement (.sd rt base offset) := encodeI_major _ _ _ _

theorem cop1 (cofun : BitVec 26) : Statement (.cop1 cofun) := encodeJ_major _ _

theorem lwc1 (ft base : Reg) (offset : BitVec 16) : Statement (.lwc1 ft base offset) := encodeI_major _ _ _ _

theorem ldc1 (ft base : Reg) (offset : BitVec 16) : Statement (.ldc1 ft base offset) := encodeI_major _ _ _ _

theorem swc1 (ft base : Reg) (offset : BitVec 16) : Statement (.swc1 ft base offset) := encodeI_major _ _ _ _

theorem sdc1 (ft base : Reg) (offset : BitVec 16) : Statement (.sdc1 ft base offset) := encodeI_major _ _ _ _

end Sys2Proof.Laws.MajorOpcode
end

