-- ==== Sys2Proof/Tests/Slice0.lean ====
section
/-! SUPPORT. Tests. Every expected result is a vector of spec/95_test_vectors.md (its name V-.. or S.. in the comment), or a
word or value of the instruction's own rule. -/

namespace Sys2Proof.Tests

open Sys2Proof.Machine

-- Launch states (95_test_vectors, "Conventions": L0).

/-- L0 without a program: every register 0, pc = K+0x400, RAM at physical 0 to 0x1FFF, Random = 31. -/
def bare : State :=
  { State.reset with
    pc := 0xFFFFFFFF80000400, npc := 0xFFFFFFFF80000404
    cp0 := { State.reset.cp0 with status := 0, prId := 0, config := 0 }
    physMem := [⟨0, 0x2000⟩] }

/-- L0 with one instruction word at pc. -/
def launch (w : Word32) : State := bare.placeWord w

/-- L0 with the word at the K+0x404 of a delay slot whose branch at K+0x400 goes to K+0x480. -/
def launchSlot (w : Word32) : State :=
  State.placeWord { bare with pc := 0xFFFFFFFF80000404, npc := 0xFFFFFFFF80000480, inDelay := true } w

/-- The launch of section 2.4: x[8] = K+0x1000, x[9] = 0x1122334455667788 and the eight bytes at 0x1000. -/
def launchData (w : Word32) : State :=
  let s := ((launch w).writeGpr 8 0xFFFFFFFF80001000).writeGpr 9 0x1122334455667788
  s.withMem (s.mem.writeBE 0x1000 8 0x8122334455667788)

/-- Status replaced. -/
def withStatus (s : State) (v : Word32) : State := s.withCp0 { s.cp0 with status := v }

/-- Cause replaced. -/
def withCause (s : State) (v : Word32) : State := s.withCp0 { s.cp0 with cause := v }

/-- One processor step with every external line low and no tick. -/
def run1 (s : State) : Host.Outcome State Fault Refusal := cycle 0 s

/-- The step answers a next state of which p holds. -/
def after (o : Host.Outcome State Fault Refusal) (p : State → Bool) : Bool :=
  match o with
  | .next t => p t
  | .fault _ => false
  | .refused _ => false

/-- Cause after the step. -/
def causeAfter (o : Host.Outcome State Fault Refusal) : Option Word32 :=
  match o with
  | .next t => some t.cp0.cause
  | .fault _ => none
  | .refused _ => none

/-- The step is refused for this reason. -/
def refusedFor (o : Host.Outcome State Fault Refusal) (r : Refusal) : Bool :=
  match o with
  | .refused r' => r' == r
  | .next _ => false
  | .fault _ => false

/-- The step stops with this fault. -/
def faultedWith (o : Host.Outcome State Fault Refusal) (f : Fault) : Bool :=
  match o with
  | .fault f' => f' == f
  | .next _ => false
  | .refused _ => false

-- Decoding: each word as the example of the instruction's own rule writes it out (spec files 40 to 44).

theorem test_decode_mfc0 : decodeTableWord 32 0x40086000 = some (.mfc0 8 12) := by decide

theorem test_decode_dmfc0 : decodeTableWord 32 0x40287000 = some (.dmfc0 8 14) := by decide

theorem test_decode_mtc0 : decodeTableWord 32 0x40885800 = some (.mtc0 8 11) := by decide

theorem test_decode_dmtc0 : decodeTableWord 32 0x40A87000 = some (.dmtc0 8 14) := by decide

theorem test_decode_tlbwr : decodeTableWord 32 0x42000006 = some (.tlbwr) := by decide

theorem test_decode_eret : decodeTableWord 32 0x42000018 = some (.eret) := by decide

theorem test_decode_j : decodeTableWord 32 0x08000120 = some (.j 0x120) := by decide

theorem test_decode_jal : decodeTableWord 32 0x0C000110 = some (.jal 0x110) := by decide

theorem test_decode_jr : decodeTableWord 32 0x03E00008 = some (.jr 31) := by decide

theorem test_decode_jalr : decodeTableWord 32 0x0320F809 = some (.jalr 31 25) := by decide

theorem test_decode_beq : decodeTableWord 32 0x11090004 = some (.beq 8 9 4) := by decide

theorem test_decode_bne : decodeTableWord 32 0x1500FFFE = some (.bne 8 0 0xFFFE) := by decide

theorem test_decode_bltzal : decodeTableWord 32 0x05100004 = some (.bltzal 8 4) := by decide

theorem test_decode_bgezal : decodeTableWord 32 0x04110003 = some (.bgezal 0 3) := by decide

theorem test_decode_bltzall : decodeTableWord 32 0x05120004 = some (.bltzall 8 4) := by decide

theorem test_decode_bgezall : decodeTableWord 32 0x05130004 = some (.bgezall 8 4) := by decide

theorem test_decode_sll : decodeTableWord 32 0x00084900 = some (.sll 9 8 4) := by decide

theorem test_decode_addu : decodeTableWord 32 0x01095021 = some (.addu 10 8 9) := by decide

theorem test_decode_daddu : decodeTableWord 32 0x0109502D = some (.daddu 10 8 9) := by decide

theorem test_decode_and : decodeTableWord 32 0x01095024 = some (.and 10 8 9) := by decide

theorem test_decode_or : decodeTableWord 32 0x01005025 = some (.or 10 8 0) := by decide

theorem test_decode_addiu : decodeTableWord 32 0x2508FFFF = some (.addiu 8 8 0xFFFF) := by decide

theorem test_decode_daddiu : decodeTableWord 32 0x65090008 = some (.daddiu 9 8 8) := by decide

theorem test_decode_andi : decodeTableWord 32 0x3109FF00 = some (.andi 9 8 0xFF00) := by decide

theorem test_decode_ori : decodeTableWord 32 0x34088001 = some (.ori 8 0 0x8001) := by decide

theorem test_decode_lui : decodeTableWord 32 0x3C088000 = some (.lui 8 0x8000) := by decide

theorem test_decode_lb : decodeTableWord 32 0x81090001 = some (.lb 9 8 1) := by decide

theorem test_decode_lbu : decodeTableWord 32 0x91090000 = some (.lbu 9 8 0) := by decide

theorem test_decode_lh : decodeTableWord 32 0x85090001 = some (.lh 9 8 1) := by decide

theorem test_decode_lhu : decodeTableWord 32 0x95090002 = some (.lhu 9 8 2) := by decide

theorem test_decode_lw : decodeTableWord 32 0x8D090004 = some (.lw 9 8 4) := by decide

theorem test_decode_lwu : decodeTableWord 32 0x9D090000 = some (.lwu 9 8 0) := by decide

theorem test_decode_ld : decodeTableWord 32 0xDD090000 = some (.ld 9 8 0) := by decide

theorem test_decode_sb : decodeTableWord 32 0xA1090003 = some (.sb 9 8 3) := by decide

theorem test_decode_sh : decodeTableWord 32 0xA5090002 = some (.sh 9 8 2) := by decide

theorem test_decode_sw : decodeTableWord 32 0xAD090000 = some (.sw 9 8 0) := by decide

theorem test_decode_sd : decodeTableWord 32 0xFD090004 = some (.sd 9 8 4) := by decide

theorem test_decode_cop1 : decodeTableWord 32 0x44880000 = some (.cop1 0x880000) := by decide

theorem test_decode_lwc1 : decodeTableWord 32 0xC5020004 = some (.lwc1 2 8 4) := by decide

theorem test_decode_ldc1 : decodeTableWord 32 0xD5020008 = some (.ldc1 2 8 8) := by decide

theorem test_decode_swc1 : decodeTableWord 32 0xE5020004 = some (.swc1 2 8 4) := by decide

theorem test_decode_sdc1 : decodeTableWord 32 0xF5020008 = some (.sdc1 2 8 8) := by decide

-- Words that decode to nothing (95_test_vectors 2.8).

theorem test_decode_none_sync : decodeTableWord 32 0x0000000F = none := by decide

theorem test_decode_none_mfc0_low_bits : decodeTableWord 32 0x40086001 = none := by decide

theorem test_decode_none_bgez : decodeTableWord 32 0x04010002 = none := by decide

theorem test_decode_none_reserved : decodeTableWord 32 0x7C000000 = none := by decide

theorem test_decode_none_lui_rs : decodeTableWord 32 0x3C288000 = none := by decide

-- Well-formedness: the one check on operands refuses each form the architecture forbids (U9), and nothing else.

theorem test_reexecutable_jalr : (Instr.jalr 25 25).reexecutable = false := by decide
theorem test_reexecutable_bltzal : (Instr.bltzal 31 4).reexecutable = false := by decide
theorem test_reexecutable_bgezal : (Instr.bgezal 31 4).reexecutable = false := by decide
theorem test_reexecutable_bltzall : (Instr.bltzall 31 4).reexecutable = false := by decide
theorem test_reexecutable_bgezall : (Instr.bgezall 31 4).reexecutable = false := by decide
theorem test_reexecutable_usual_call : (Instr.jalr 31 25).reexecutable = true := by decide

-- One step each.

/-- V-C2. -/
theorem test_mfc0_sign_extends :
    after (run1 (withCause (launch 0x40086800) 0x80008000)) (fun t => t.readGpr 8 == 0xFFFFFFFF80008000) = true := by decide

/-- V-C3. -/
theorem test_mfc0_low_word_of_epc :
    after (run1 (State.withCp0 (launch 0x40087000) { (launch 0).cp0 with epc := 0x0000000180001234 })) (fun t => t.readGpr 8 == 0xFFFFFFFF80001234) = true := by decide

/-- V-C4. -/
theorem test_dmfc0_whole_epc :
    after (run1 (State.withCp0 (launch 0x40287000) { (launch 0).cp0 with epc := 0x0000000180001234 })) (fun t => t.readGpr 8 == 0x0000000180001234) = true := by decide

/-- V-C9. -/
theorem test_mtc0_cause_mask :
    after (run1 (withCause ((launch 0x40886800).writeGpr 8 0xFFFFFFFFFFFFFFFF) 0x00008000)) (fun t => t.cp0.cause == 0x00008300) = true := by decide

/-- V-C10. -/
theorem test_mtc0_compare_clears_ip7 :
    after (run1 (withCause ((launch 0x40885800).writeGpr 8 0x1000) 0x00008000)) (fun t => t.cp0.compare == 0x1000 && t.cp0.cause == 0) = true := by decide

/-- V-C17. -/
theorem test_dmtc0_entryHi_mask :
    after (run1 ((launch 0x40A85000).writeGpr 8 0xFFFFFFFFFFFFFFFF)) (fun t => t.cp0.entryHi == 0xC00000FFFFFFE0FF) = true := by decide

/-- V-C16. -/
theorem test_dmtc0_epc :
    after (run1 ((launch 0x40A87000).writeGpr 8 0x0000000080001234)) (fun t => t.cp0.epc == 0x0000000080001234) = true := by decide

/-- V-C21. -/
theorem test_eret_clears_exl :
    after (run1 (State.withCp0 (launch 0x42000018) { (launch 0).cp0 with status := 0x00008003, epc := 0xFFFFFFFF80000408 })) (fun t => t.pc == 0xFFFFFFFF80000408 && t.npc == 0xFFFFFFFF8000040C && t.cp0.status == 0x00008001) = true := by decide

/-- V-C22. -/
theorem test_eret_error_level :
    after (run1 (State.withCp0 (launch 0x42000018) { (launch 0).cp0 with status := 0x00008007, epc := 0xFFFFFFFF80000408, errorEPC := 0xFFFFFFFF80000500 })) (fun t => t.pc == 0xFFFFFFFF80000500 && t.cp0.status == 0x00008003) = true := by decide

/-- S4: Wired 30, Random 30 becomes 31. -/
theorem test_random_wraps_at_wired :
    after (run1 (State.withCp0 (launch 0) { (launch 0).cp0 with wired := 30, random := 30 })) (fun t => t.cp0.random == 31) = true := by decide

/-- S4: Wired 30, Random 31 becomes 30. -/
theorem test_random_decrements :
    after (run1 (State.withCp0 (launch 0) { (launch 0).cp0 with wired := 30, random := 31 })) (fun t => t.cp0.random == 30) = true := by decide

/-- V-B1. -/
theorem test_j_target :
    after (run1 (launch 0x08000120)) (fun t => t.pc == 0xffffffff80000404 && t.npc == 0xffffffff80000480 && t.inDelay == true) = true := by decide

/-- V-B2. -/
theorem test_jal_links :
    after (run1 (launch 0x0C000110)) (fun t => t.readGpr 31 == 0xffffffff80000408 && t.npc == 0xffffffff80000440) = true := by decide

/-- V-B3. -/
theorem test_jal_in_slot_refused :
    refusedFor (run1 (launchSlot 0x0C000110)) .controlTransferInDelaySlot = true := by decide

/-- V-B5. -/
theorem test_jr_target :
    after (run1 ((launch 0x01000008).writeGpr 8 0xffffffff80000402)) (fun t => t.npc == 0xffffffff80000402) = true := by decide

/-- V-B7. -/
theorem test_jalr_reads_before_link :
    after (run1 ((launch 0x0320C809).writeGpr 25 0xffffffff80000500)) (fun t => t.readGpr 25 == 0xffffffff80000408 && t.npc == 0xffffffff80000500) = true := by decide

/-- V-B10. -/
theorem test_beq_compares_64_bits :
    after (run1 (((launch 0x11090004).writeGpr 8 0x0000000100000001).writeGpr 9 1)) (fun t => t.npc == 0xffffffff80000408) = true := by decide

/-- V-B11. -/
theorem test_bne_backward :
    after (run1 ({ State.placeWord { bare with pc := 0xffffffff80000410, npc := 0xffffffff80000414 } 0x1500FFFE with gpr := (bare.writeGpr 8 1).gpr })) (fun t => t.npc == 0xffffffff8000040c) = true := by decide

/-- V-B13. -/
theorem test_bltzal_taken :
    after (run1 ((launch 0x05100004).writeGpr 8 0xFFFFFFFFFFFFFFFF)) (fun t => t.readGpr 31 == 0xffffffff80000408 && t.npc == 0xffffffff80000414) = true := by decide

/-- V-B15. -/
theorem test_bltzal_tests_bit_63 :
    after (run1 ((launch 0x05100004).writeGpr 8 0x0000000080000000)) (fun t => t.readGpr 31 == 0xffffffff80000408 && t.npc == 0xffffffff80000408) = true := by decide

/-- V-B17. -/
theorem test_bgezal_not_taken :
    after (run1 ((launch 0x05110003).writeGpr 8 0x8000000000000000)) (fun t => t.readGpr 31 == 0xffffffff80000408 && t.npc == 0xffffffff80000408) = true := by decide

/-- V-B18. -/
theorem test_bltzall_skips_slot :
    after (run1 (launch 0x05120004)) (fun t => t.readGpr 31 == 0xffffffff80000408 && t.pc == 0xffffffff80000408 && t.npc == 0xffffffff8000040c && t.inDelay == false) = true := by decide

/-- V-B20. -/
theorem test_bgezall_taken :
    after (run1 ((launch 0x05130004).writeGpr 8 5)) (fun t => t.readGpr 31 == 0xffffffff80000408 && t.pc == 0xffffffff80000404 && t.npc == 0xffffffff80000414 && t.inDelay == true) = true := by decide

/-- V-B21. -/
theorem test_bgezall_skips_slot :
    after (run1 ((launch 0x05130004).writeGpr 8 0xFFFFFFFFFFFFFFFF)) (fun t => t.pc == 0xffffffff80000408 && t.npc == 0xffffffff8000040c && t.inDelay == false) = true := by decide

/-- V-I2. -/
theorem test_sll_low_half_only :
    after (run1 ((launch 0x00084800).writeGpr 8 0x123456789ABCDEF0)) (fun t => t.readGpr 9 == 0xFFFFFFFF9ABCDEF0) = true := by decide

/-- V-I3. -/
theorem test_sll_31 :
    after (run1 ((launch 0x00084FC0).writeGpr 8 3)) (fun t => t.readGpr 9 == 0xFFFFFFFF80000000) = true := by decide

/-- V-I4. -/
theorem test_sll_to_r0 :
    after (run1 ((launch 0x00080100).writeGpr 8 3)) (fun t => t.readGpr 0 == 0) = true := by decide

/-- V-I7. -/
theorem test_addu_wraps :
    after (run1 (((launch 0x01095021).writeGpr 8 0x7FFFFFFF).writeGpr 9 1)) (fun t => t.readGpr 10 == 0xFFFFFFFF80000000) = true := by decide

/-- V-I8. -/
theorem test_addu_minus_one :
    after (run1 (((launch 0x01095021).writeGpr 8 0xFFFFFFFFFFFFFFFF).writeGpr 9 1)) (fun t => t.readGpr 10 == 0) = true := by decide

/-- V-I11. -/
theorem test_daddu_keeps_64_bits :
    after (run1 (((launch 0x0109502D).writeGpr 8 0x7FFFFFFF).writeGpr 9 1)) (fun t => t.readGpr 10 == 0x80000000) = true := by decide

/-- V-I13. -/
theorem test_and_bits :
    after (run1 (((launch 0x01095024).writeGpr 8 0xFFFFFFFF80008001).writeGpr 9 0xFF00)) (fun t => t.readGpr 10 == 0x8000) = true := by decide

/-- V-I15. -/
theorem test_or_bits :
    after (run1 (((launch 0x01095025).writeGpr 8 0xF0F0000000000000).writeGpr 9 0x0F0F)) (fun t => t.readGpr 10 == 0xF0F0000000000F0F) = true := by decide

/-- V-I16. -/
theorem test_addiu_sign_extends :
    after (run1 (launch 0x2508FFFF)) (fun t => t.readGpr 8 == 0xFFFFFFFFFFFFFFFF) = true := by decide

/-- V-I17. -/
theorem test_addiu_wraps :
    after (run1 ((launch 0x25080001).writeGpr 8 0x7FFFFFFF)) (fun t => t.readGpr 8 == 0xFFFFFFFF80000000) = true := by decide

/-- V-I21. -/
theorem test_daddiu_minus_one :
    after (run1 (launch 0x6509FFFF)) (fun t => t.readGpr 9 == 0xFFFFFFFFFFFFFFFF) = true := by decide

/-- V-I24. -/
theorem test_andi_zero_extends :
    after (run1 ((launch 0x3109FFFF).writeGpr 8 0xFFFFFFFFFFFFFFFF)) (fun t => t.readGpr 9 == 0xFFFF) = true := by decide

/-- V-I26. -/
theorem test_ori_keeps_upper :
    after (run1 ((launch 0x350900FF).writeGpr 8 0xFFFFFFFF80000000)) (fun t => t.readGpr 9 == 0xFFFFFFFF800000FF) = true := by decide

/-- V-I27. -/
theorem test_lui_sign_extends :
    after (run1 (launch 0x3C088000)) (fun t => t.readGpr 8 == 0xFFFFFFFF80000000) = true := by decide

/-- V-I10. -/
theorem test_addu_sa_nonzero_refused :
    refusedFor (run1 (launch 0x01095061)) .unmodelledEncoding = true := by decide

/-- V-M1. -/
theorem test_lb_value :
    after (run1 (launchData 0x81090000)) (fun t => t.readGpr 9 == 0xFFFFFFFFFFFFFF81) = true := by decide

/-- V-M3. -/
theorem test_lbu_value :
    after (run1 (launchData 0x91090000)) (fun t => t.readGpr 9 == 0x81) = true := by decide

/-- V-M4. -/
theorem test_lh_value :
    after (run1 (launchData 0x85090000)) (fun t => t.readGpr 9 == 0xFFFFFFFFFFFF8122) = true := by decide

/-- V-M6. -/
theorem test_lhu_value :
    after (run1 (launchData 0x95090002)) (fun t => t.readGpr 9 == 0x3344) = true := by decide

/-- V-M7. -/
theorem test_lw_value :
    after (run1 (launchData 0x8D090000)) (fun t => t.readGpr 9 == 0xFFFFFFFF81223344) = true := by decide

/-- V-M10. -/
theorem test_lwu_value :
    after (run1 (launchData 0x9D090000)) (fun t => t.readGpr 9 == 0x81223344) = true := by decide

/-- V-M11. -/
theorem test_ld_value :
    after (run1 (launchData 0xDD090000)) (fun t => t.readGpr 9 == 0x8122334455667788) = true := by decide

/-- V-M15. -/
theorem test_lw_negative_offset :
    after (run1 ((launchData 0x8D09FFFC).writeGpr 8 0xffffffff80001008)) (fun t => t.readGpr 9 == 0x55667788) = true := by decide

/-- V-M23. -/
theorem test_lw_kseg1 :
    after (run1 ((launchData 0x8D090000).writeGpr 8 0xFFFFFFFFA0001000)) (fun t => t.readGpr 9 == 0xFFFFFFFF81223344) = true := by decide

/-- V-M5, ce any. -/
theorem test_lh_misaligned_cause :
    causeAfter (run1 (launchData 0x85090001)) = some (withCe 0x10 (Config.ceDraw 0)) := by rfl

/-- V-M5. -/
theorem test_lh_misaligned :
    after (run1 (launchData 0x85090001)) (fun t => t.cp0.badVAddr == 0xffffffff80001001 && t.cp0.epc == 0xffffffff80000400 && t.cp0.status == 2 && t.pc == 0xffffffff80000180 && t.npc == 0xffffffff80000184 && t.readGpr 9 == 0x1122334455667788) = true := by decide

/-- V-M29, ce any. -/
theorem test_lh_misaligned_in_slot_cause :
    causeAfter (run1 ({ launchSlot 0x85090001 with gpr := (launchData 0).gpr })) = some (withCe 0x80000010 (Config.ceDraw 0)) := by rfl

/-- V-M29. -/
theorem test_lh_misaligned_in_slot :
    after (run1 ({ launchSlot 0x85090001 with gpr := (launchData 0).gpr })) (fun t => t.cp0.epc == 0xffffffff80000400) = true := by decide

/-- V-M30 with LD. -/
theorem test_ld_misaligned_keeps_epc_at_exl :
    after (run1 (State.withCp0 (launchData 0xDD090004) { (launch 0).cp0 with status := 2, epc := 0x1111 })) (fun t => t.cp0.epc == 0x1111 && t.cp0.badVAddr == 0xffffffff80001004 && t.cp0.status == 2) = true := by decide

/-- V-M31. -/
theorem test_lh_bev_vector :
    after (run1 (withStatus (launchData 0x85090001) 0x00400000)) (fun t => t.pc == 0xFFFFFFFFBFC00380 && t.cp0.status == 0x00400002) = true := by decide

/-- V-M16. -/
theorem test_sb_byte :
    after (run1 (launchData 0xA1090003)) (fun t => t.mem.readBE 0x1000 8 == 0x8122338855667788) = true := by decide

/-- V-M17. -/
theorem test_sh_bytes :
    after (run1 (launchData 0xA5090002)) (fun t => t.mem.readBE 0x1000 8 == 0x8122778855667788) = true := by decide

/-- V-M19. -/
theorem test_sw_bytes :
    after (run1 (launchData 0xAD090000)) (fun t => t.mem.readBE 0x1000 8 == 0x5566778855667788) = true := by decide

/-- V-M21. -/
theorem test_sd_bytes :
    after (run1 (launchData 0xFD090000)) (fun t => t.mem.readBE 0x1000 8 == 0x1122334455667788) = true := by decide

/-- V-M22, ce any. -/
theorem test_sd_misaligned_cause :
    causeAfter (run1 (launchData 0xFD090004)) = some (withCe 0x14 (Config.ceDraw 0)) := by rfl

/-- V-M22. -/
theorem test_sd_misaligned :
    after (run1 (launchData 0xFD090004)) (fun t => t.cp0.badVAddr == 0xffffffff80001004 && t.mem.readBE 0x1000 8 == 0x8122334455667788) = true := by decide

/-- V-M25. -/
theorem test_lw_mapped_refused :
    refusedFor (run1 ((launchData 0x8D090000).writeGpr 8 0x80001000)) .mappedAddress = true := by decide

/-- V-M26. -/
theorem test_lw_no_memory :
    faultedWith (run1 ((launchData 0x8D090000).writeGpr 8 0xffffffff80100000)) .noSuchMemory = true := by decide

/-- V-M27. -/
theorem test_sw_program_text_refused :
    refusedFor (run1 ((launchData 0xAD090000).writeGpr 8 0xffffffff80000400)) .storeToProgramText = true := by decide

/-- V-M28. -/
theorem test_re_refused :
    refusedFor (run1 (withStatus (launchData 0x8D090000) 0x02000000)) .reverseEndian = true := by decide

/-- 60_exceptions R332, 10_state R85; log 18. -/
theorem test_watched_load_refused :
    refusedFor (run1 ((launchData 0x8D090000).withCp0 { (launch 0).cp0 with watchLo := 0x00001002 })) .watchHit = true := by decide

/-- V-F1, at K+0x400. -/
theorem test_cop1_unusable :
    after (run1 (launch 0x44880000)) (fun t => t.cp0.cause == 0x1000002C && t.cp0.epc == 0xffffffff80000400 && t.cp0.status == 2 && t.pc == 0xffffffff80000180) = true := by decide

/-- V-F2. -/
theorem test_cop1_enabled_refused :
    refusedFor (run1 (withStatus (launch 0x44880000) 0x20000000)) .cp1NotModelled = true := by decide

/-- V-F4. -/
theorem test_lwc1_in_slot :
    after (run1 (launchSlot 0xC5020004)) (fun t => t.cp0.cause == 0x9000002C && t.cp0.epc == 0xffffffff80000400 && t.cp0.status == 2 && t.pc == 0xffffffff80000180) = true := by decide

/-- V-F5. -/
theorem test_sdc1_bev :
    after (run1 (withStatus (launch 0xF5020008) 0x00400000)) (fun t => t.cp0.cause == 0x1000002C && t.cp0.epc == 0xffffffff80000400 && t.cp0.status == 0x00400002 && t.pc == 0xFFFFFFFFBFC00380) = true := by decide

/-- V-F6 with cu1 = 0. -/
theorem test_ldc1_unusable :
    after (run1 (launch 0xD5020008)) (fun t => t.cp0.cause == 0x1000002C && t.cp0.epc == 0xffffffff80000400 && t.cp0.status == 2 && t.pc == 0xffffffff80000180) = true := by decide

/-- V-F7. -/
theorem test_swc1_unusable :
    after (run1 (launch 0xE5020004)) (fun t => t.cp0.cause == 0x1000002C && t.cp0.epc == 0xffffffff80000400 && t.cp0.status == 2 && t.pc == 0xffffffff80000180 && t.mem == (launch 0xE5020004).mem) = true := by decide

/-- V-X1, ce any. -/
theorem test_interrupt_taken_cause :
    causeAfter (run1 (State.withCp0 (launch 0) { (launch 0).cp0 with status := 0x8001, cause := 0x8000 })) = some (withCe 0x8000 (Config.ceDraw 0)) := by rfl

/-- V-X1. -/
theorem test_interrupt_taken :
    after (run1 (State.withCp0 (launch 0) { (launch 0).cp0 with status := 0x8001, cause := 0x8000 })) (fun t => t.cp0.epc == 0xffffffff80000400 && t.cp0.status == 0x8003 && t.pc == 0xffffffff80000180 && t.cp0.random == 31) = true := by decide

/-- V-X5. -/
theorem test_interrupt_blocked_by_erl :
    after (run1 (State.withCp0 (launch 0) { (launch 0).cp0 with status := 0x8005, cause := 0x8000 })) (fun t => t.pc == 0xffffffff80000404 && t.npc == 0xffffffff80000408 && t.inDelay == false) = true := by decide

/-- V-X7, ce any. -/
theorem test_interrupt_in_slot_cause :
    causeAfter (run1 (State.withCp0 (launchSlot 0) { (launch 0).cp0 with status := 0x8001, cause := 0x8000 })) = some (withCe 0x80008000 (Config.ceDraw 0)) := by rfl

/-- V-X7. -/
theorem test_interrupt_in_slot :
    after (run1 (State.withCp0 (launchSlot 0) { (launch 0).cp0 with status := 0x8001, cause := 0x8000 })) (fun t => t.cp0.epc == 0xffffffff80000400 && t.inDelay == false) = true := by decide

/-- V-X9. -/
theorem test_external_line_interrupts :
    after (cycle 1 (withStatus (launch 0) 0x401)) (fun t => t.cp0.epc == 0xffffffff80000400 && t.cp0.status == 0x403 ) = true := by decide

/-- V-X11. -/
theorem test_external_line_withdrawn :
    after (run1 (withCause (launch 0) 0x400)) (fun t => t.cp0.cause == 0) = true := by decide

/-- V-X12, ce any. -/
theorem test_fetch_misaligned_cause :
    causeAfter (run1 ({ launch 0 with pc := 0xffffffff80000402, npc := 0xffffffff80000406 })) = some (withCe 0x10 (Config.ceDraw 0)) := by rfl

/-- V-X12. -/
theorem test_fetch_misaligned :
    after (run1 ({ launch 0 with pc := 0xffffffff80000402, npc := 0xffffffff80000406 })) (fun t => t.cp0.badVAddr == 0xffffffff80000402 && t.cp0.epc == 0xffffffff80000402) = true := by decide

/-- V-X13. -/
theorem test_user_mode_refused :
    refusedFor (run1 (withStatus (launch 0) 0x10)) .nonKernelMode = true := by decide

/-- V-X14. -/
theorem test_exl_is_kernel :
    after (run1 (withStatus (launch 0) 0x12)) (fun t => t.pc == 0xffffffff80000404 && t.npc == 0xffffffff80000408 && t.inDelay == false) = true := by decide

/-- V-X17. -/
theorem test_fetch_outside_program_text :
    faultedWith (run1 { launch 0 with pc := 0xffffffff80000800, npc := 0xffffffff80000804 }) .noSuchMemory = true := by decide

/-- V-T1. -/
theorem test_tick_reaches_compare :
    Timer.tick 8 ⟨7, true, false⟩ = ⟨8, false, true⟩ := by decide

/-- V-T3. -/
theorem test_tick_wraps :
    Timer.tick 5 ⟨0xFFFFFFFF, true, false⟩ = ⟨0, false, false⟩ := by decide

/-- V-T5. -/
theorem test_tick_edge :
    Timer.tick 8 ⟨8, true, false⟩ = ⟨9, false, false⟩ := by decide

/-- V-T6. -/
theorem test_tick_sticky :
    Timer.tick 0x20 ⟨8, true, true⟩ = ⟨9, false, true⟩ := by decide

/-- V-T8. -/
theorem test_four_ticks :
    Timer.ticks 2 4 ⟨0, false, false⟩ = ⟨2, false, true⟩ := by decide

-- The host's entry points.

/-- The instruction placed where the first fetch after reset reads it is the one that is fetched (log 5). -/
theorem test_first_instruction_after_reset :
    (match fetch (State.reset.withFetchWord 32 0x3C088000) with
      | .ok w => decode w
      | .raise _ => .error .truncated
      | .fault _ => .error .truncated
      | .refuse _ => .error .truncated) = .ok (.lui 8 0x8000) := by decide

/-- The first step after reset runs it, whatever the free inputs are: erl blocks interrupts. -/
theorem test_first_step_after_reset :
    after (step (State.reset.withFetchWord 32 0x3C088000)) (fun t => t.readGpr 8 == 0xFFFFFFFF80000000) = true := by decide

-- Witnesses: for every obligation with hypotheses, concrete states and operands that meet all of them together; several where its
-- clauses split on a range. The external lines are opaque, so a front is decided for all 32 of their values.

/-- The front of a step from s, whatever the external lines are. -/
theorem front_sampled {s : State} {f : Front} (h : ∀ l : BitVec 5, front (s.sampleLines l) = f) : front s.sampled = f := h _

/-- A state whose software interrupt 0 is pending and enabled. -/
def interruptible : State := withCause (withStatus (launch 0) 0x101) 0x100

/-- VectorBase is a parameter (00_scope R8): COP1 with cu1 = 0 goes to another base + 0x180. -/
theorem test_vector_base_parameter :
    after (run1 { launch 0x44880000 with params := { suggestedParams with vectorBase0 := 0xFFFFFFFFA0001000 } })
      (fun t => t.pc == 0xFFFFFFFFA0001180) = true := by decide

theorem witness_EncodeDecode : decode 0x42000018 = .ok .eret ∧ decode 0x0320F809 = .ok (.jalr 31 25) := by decide

theorem witness_EachWordSelectsOneRow_row :
    (∃ r ∈ opcodeRows, 0x42000018 &&& r.mask = r.pattern) ∧ (∃ r ∈ opcodeRows, 0xFFFFFFFF &&& r.mask = r.pattern) := by decide
theorem witness_EachWordSelectsOneRow_none : ∀ r ∈ opcodeRows, 0x42000019 &&& r.mask ≠ r.pattern := by decide

theorem witness_StepRunsDecodedInstruction :
    effectiveMode (launch 0x3C088000).cp0.status = .kernel ∧
    interruptTaken (launch 0x3C088000).cp0.status (launch 0x3C088000).sampled.cp0.cause = false ∧
    statusRe (launch 0x3C088000).cp0.status = false ∧ (launch 0x3C088000).pc.toNat % 4 = 0 ∧
    translateAddress (launch 0x3C088000).pc = some (physicalOf (launch 0x3C088000).pc) ∧
    0x400 = (physicalOf (launch 0x3C088000).pc).toNat ∧ coversAll (launch 0x3C088000).physMem 0x400 4 = true ∧
    coversAll (launch 0x3C088000).programText 0x400 4 = true ∧
    decodeBytes [(launch 0x3C088000).mem.read 0x400, (launch 0x3C088000).mem.read 0x401, (launch 0x3C088000).mem.read 0x402,
      (launch 0x3C088000).mem.read 0x403] = .ok (.lui 8 0x8000, []) := by decide

theorem witness_UnmodelledWordRefused :
    effectiveMode (launch 0xF).cp0.status = .kernel ∧
    interruptTaken (launch 0xF).cp0.status (launch 0xF).sampled.cp0.cause = false ∧ fetch (launch 0xF) = .ok 0xF ∧
    ∀ r ∈ opcodeRows, 0xF &&& r.mask ≠ r.pattern := by decide

theorem witness_NonKernelRefused :
    effectiveMode (withStatus bare 0x08).cp0.status = .supervisor ∧ effectiveMode (withStatus bare 0x10).cp0.status = .user ∧
    effectiveMode (withStatus bare 0x18).cp0.status = .undefined := by decide

theorem witness_InterruptEntry : TakesInterrupt interruptible := front_sampled (by decide)

theorem witness_ReturnUndoesEntry :
    statusExl (launch 0).cp0.status = false ∧ statusErl (launch 0).cp0.status = false ∧ (launch 0).inDelay = false ∧
    statusExl (launchSlot 0).cp0.status = false ∧ statusErl (launchSlot 0).cp0.status = false ∧
    (launchSlot 0).inDelay = true := by decide

theorem witness_Eret :
    bare.inDelay = false ∧ bare.cp0.status.getLsbD 2 = false ∧
    (withStatus bare 0x6).inDelay = false ∧ (withStatus bare 0x6).cp0.status.getLsbD 2 = true := by decide

theorem witness_ControlTransferInSlotRefused :
    isControlTransfer .eret = true ∧ isControlTransfer (.bgezall 8 4) = true ∧ (launchSlot 0).inDelay = true := by decide

/-- For Jumps, JumpRegisters, Branches, LinkBranches and LikelyLinkBranches: no slot, and operands on each side of each test. -/
theorem witness_branches :
    bare.inDelay = false ∧ bare.readGpr 8 = bare.readGpr 0 ∧ (bare.writeGpr 8 (1 <<< 63)).inDelay = false ∧
    (bare.writeGpr 8 (1 <<< 63)).readGpr 8 ≠ (bare.writeGpr 8 (1 <<< 63)).readGpr 0 ∧
    ((bare.writeGpr 8 (1 <<< 63)).readGpr 8).toInt < 0 ∧ 0 ≤ (bare.readGpr 8).toInt := by decide

theorem witness_WordAdditions :
    bare.readGpr 0 = ((bare.readGpr 0).setWidth 32).signExtend 64 ∧
    (bare.writeGpr 8 0x7FFFFFFF).readGpr 8 = (((bare.writeGpr 8 0x7FFFFFFF).readGpr 8).setWidth 32).signExtend 64 ∧
    (bare.writeGpr 8 0xFFFFFFFF80000000).readGpr 8 =
      (((bare.writeGpr 8 0xFFFFFFFF80000000).readGpr 8).setWidth 32).signExtend 64 := by decide

theorem witness_KernelSegments :
    translateAddress 0xFFFFFFFF80000000 = some 0 ∧ translateAddress 0xFFFFFFFF9FFFFFFF = some 0x1FFFFFFF ∧
    translateAddress 0xFFFFFFFFA0000000 = some 0 ∧ translateAddress 0xFFFFFFFFBFFFFFFF = some 0x1FFFFFFF ∧
    (0xFFFFFFFF7FFFFFFF#64 < 0xFFFFFFFF80000000#64 ∧ 0xFFFFFFFFBFFFFFFF#64 < 0xFFFFFFFFC0000000#64) ∧
    statusRe bare.cp0.status = false ∧ (0xFFFFFFFFC0000000#64).toNat % Width.dword.bytes = 0 := by decide

/-- For LoadByte to LoadDoubleword: ready at the data of section 2.4, and at the last bytes of memory. -/
theorem witness_loads :
    LoadReady (launchData 0) ((launchData 0).effectiveAddress 8 0) .byte ∧
    LoadReady (launchData 0) ((launchData 0).effectiveAddress 8 0) .half ∧
    LoadReady (launchData 0) ((launchData 0).effectiveAddress 8 0) .word ∧
    LoadReady (launchData 0) ((launchData 0).effectiveAddress 8 0) .dword ∧
    LoadReady (launchData 0) ((launchData 0).effectiveAddress 8 0xFFF) .byte ∧
    LoadReady (launchData 0) ((launchData 0).effectiveAddress 8 0xFF8) .dword := by
  unfold LoadReady; decide

theorem witness_Stores :
    (launchData 0).mem.wf ∧ StoreReady (launchData 0) ((launchData 0).effectiveAddress 8 0) .byte ∧
    StoreReady (launchData 0) ((launchData 0).effectiveAddress 8 0) .half ∧
    StoreReady (launchData 0) ((launchData 0).effectiveAddress 8 0) .word ∧
    StoreReady (launchData 0) ((launchData 0).effectiveAddress 8 0) .dword ∧
    StoreReady (launchData 0) ((launchData 0).effectiveAddress 8 0xFFF) .byte ∧
    StoreReady (launchData 0) ((launchData 0).effectiveAddress 8 0xFF8) .dword := by
  unfold StoreReady; decide

/-- For the misaligned clauses of LoadHalf, LoadWord, LoadDoubleword and Stores. -/
theorem witness_misaligned :
    statusRe (launchData 0).cp0.status = false ∧ ((launchData 0).effectiveAddress 8 1).toNat % 2 ≠ 0 ∧
    ((launchData 0).effectiveAddress 8 2).toNat % 4 ≠ 0 ∧ ((launchData 0).effectiveAddress 8 4).toNat % 8 ≠ 0 := by decide

theorem witness_MisalignedFetch :
    effectiveMode bare.cp0.status = .kernel ∧
    interruptTaken ({ bare with pc := 0xFFFFFFFF80000402 } : State).cp0.status
      ({ bare with pc := 0xFFFFFFFF80000402 } : State).sampled.cp0.cause = false ∧
    statusRe bare.cp0.status = false ∧ ({ bare with pc := 0xFFFFFFFF80000402 } : State).pc.toNat % 4 ≠ 0 := by decide

theorem witness_AccessStops :
    statusRe (withStatus bare 0x2000000).cp0.status = true ∧ translateAddress 0 = none ∧
    translateAddress 0xFFFFFFFF80001FF8 = some 0x1FF8 ∧ coversAll bare.physMem 0x1FF8 8 = true ∧
    translateAddress 0xFFFFFFFF80002000 = some 0x2000 ∧ coversAll bare.physMem 0x2000 1 = false ∧
    touchesAny (launch 0).programText 0x400 4 = true ∧ touchesAny (launch 0).programText 0x404 4 = false ∧
    watchHitsLoad (State.withCp0 bare { bare.cp0 with watchLo := 0x1FFA }) 0xFFFFFFFF80001FF8 = true ∧
    watchHitsStore (State.withCp0 bare { bare.cp0 with watchLo := 0x1FF9 }) 0xFFFFFFFF80001FF8 = true := by decide

/-- SD through kseg0, LD of the same doubleword through kseg1. -/
theorem witness_LoadAfterStore :
    ∃ s t, s = (launchData 0).writeGpr 10 0xFFFFFFFFA0001000 ∧ s.mem.wf ∧ StoreReady s (s.effectiveAddress 8 0) .dword ∧
      exec (.sd 9 8 0) s = .next t ∧ LoadReady t (t.effectiveAddress 10 0) .dword ∧
      (t.effectiveAddress 10 0).toNat % 2 ^ 29 = (s.effectiveAddress 8 0).toNat % 2 ^ 29 := by
  refine ⟨_, _, rfl, by decide, ?_, rfl, ?_, by decide⟩
  · unfold StoreReady; decide
  · unfold LoadReady; decide

/-- For RandomRead and Tlbwr: Wired at both ends of its range, and just above it. -/
theorem witness_random :
    RandomInRange bare ∧ (wiredField bare.cp0).toNat ≤ 31 ∧
    RandomInRange (State.withCp0 bare { bare.cp0 with wired := 31 }) ∧
    (wiredField (State.withCp0 bare { bare.cp0 with wired := 31 }).cp0).toNat ≤ 31 ∧
    31 < (wiredField (State.withCp0 bare { bare.cp0 with wired := 32 }).cp0).toNat := by
  unfold RandomInRange; decide

theorem witness_ReadOnlyCp0 :
    (31 : Reg) ∈ ([1, 7, 21, 22, 23, 24, 25, 31] : List Reg) ∧ bare.params.wmask.badVAddr = 0 ∧ bare.params.wmask.prId = 0 ∧
    bare.params.wmask.cacheError = 0 ∧ bare.params.wmask.tagHi = 0 := by decide

/-- For CompareWrite and CountWrite. -/
theorem witness_timer_masks : bare.params.wmask.compare = 0xFFFFFFFF ∧ bare.params.wmask.count = 0xFFFFFFFF := by decide

/-- For ResetMachine: a state after reset that is not State.reset, with ie = 1 and an interrupt pending. -/
theorem witness_ResetMachine :
    AfterReset (State.withCp0 State.reset { State.reset.cp0 with status := 0x00408105, cause := 0x8100 }) := by
  unfold AfterReset CauseUnusedZero ReservedBitsFixed HoldsFixed; decide

theorem witness_Cp1Class :
    bare.cp0.status.getLsbD 29 = false ∧ (withStatus bare 0x20000000).cp0.status.getLsbD 29 = true := by decide

theorem witness_Tick : bare.countHalf = false ∧ ({ bare with countHalf := true } : State).countHalf = true := by decide

theorem witness_RandomUpdate_interrupt : ∃ t, step interruptible = .next t ∧ TakesInterrupt interruptible := by
  have h : front (interruptible.sampleLines (Config.extIP interruptible.time)) = .interrupt := witness_InterruptEntry
  exact ⟨_, by unfold step stepWith cycle process; rw [h]; rfl, witness_InterruptEntry⟩

/-- For RandomUpdate, LaunchKept and ExceptionCodes: an ordinary step. -/
theorem witness_step : ∃ t, step (launch 0) = .next t ∧ ¬ TakesInterrupt (launch 0) := by
  refine ⟨_, rfl, ?_⟩
  unfold TakesInterrupt
  decide

/-- For MemoryCanonicalKept, RandomRangeKept, CauseUnusedKept and ReservedBitsKept: the first step after reset, a store. -/
theorem witness_invariants :
    ∃ s t, s = (State.reset.withFetchWord 32 0xAD090000).writeGpr 8 0xFFFFFFFF80001000 ∧ s.mem.wf ∧ RandomInRange s ∧
      CauseUnusedZero s ∧ ReservedBitsFixed s ∧ step s = .next t := by
  refine ⟨_, _, rfl, by decide, ?_, ?_, ?_, rfl⟩
  · unfold RandomInRange; decide
  · unfold CauseUnusedZero; decide
  · unfold ReservedBitsFixed HoldsFixed; decide

/-- The step from `launch 0` executes SLL r0, r0, 0, so it is no TLBWR and no move to a CP0 register. -/
theorem witness_SystemStateChangers :
    (∃ t, step (launch 0) = .next t) ∧ ¬ Executes (launch 0) .tlbwr ∧ (∀ n : Reg, ¬ MovesTo (launch 0) n) ∧
    (launch 0).params.wmask.cacheError = 0 ∧ (launch 0).params.wmask.tagHi = 0 ∧ (launch 0).params.wmask.prId = 0 := by
  have h : front (launch 0).sampled = .execute (.sll 0 0 0) := rfl
  refine ⟨⟨_, rfl⟩, ?_, ?_, by decide, by decide, by decide⟩
  · unfold Executes; rw [h]; simp
  · rintro n ⟨rt, he | he⟩ <;> (unfold Executes at he; rw [h] at he; simp at he)

/-- ERET to user mode: ksu = 2 under exl = 1. -/
theorem witness_KernelModeLeft :
    ∃ t, step (withStatus (launch 0x42000018) 0x12) = .next t ∧ effectiveMode t.cp0.status ≠ .kernel :=
  ⟨_, rfl, by decide⟩

theorem witness_SoftwareInterrupt :
    ∃ s, s = (withStatus (launch 0x40886800) 0x101).writeGpr 8 0x100 ∧ Executes s (.mtc0 8 13) ∧
      statusIe s.cp0.status = true ∧ statusExl s.cp0.status = false ∧ statusErl s.cp0.status = false ∧
      s.cp0.status.getLsbD 8 = true ∧ (s.readGpr 8).getLsbD 8 = true :=
  ⟨_, rfl, front_sampled (by decide), by decide, by decide, by decide, by decide, by decide⟩


end Sys2Proof.Tests
end

section
/-! PROOFS. The family 00_scope: what every step keeps of the launch and of the fixed bits of CP0, the sampling of the external
lines, and the machine after reset. Each invariant is kept by each update of the state (one lemma per update), so by each `Effect` of
an instruction, so by the step (`step_cases`). -/

namespace Sys2Proof.Machine

-- The fixed bits of the CP0 registers, update by update.

/-- A bit that the mask withholds is kept. -/
theorem getLsbD_maskedWrite_of_withheld {n : Nat} {mask : BitVec n} {i : Nat} (old new : BitVec n) (h : mask.getLsbD i = false) :
    (maskedWrite old new mask).getLsbD i = old.getLsbD i := by
  rw [getLsbD_maskedWrite, h, if_neg Bool.false_ne_true]

/-- The invariant speaks of the CP0 registers and the parameters only. -/
theorem ReservedBitsFixed.congr {s t : State} (h : ReservedBitsFixed s) (hc : t.cp0 = s.cp0) (hp : t.params = s.params) :
    ReservedBitsFixed t := by
  unfold ReservedBitsFixed
  rw [hc, hp]
  exact h

/-- It names none of the five registers that the machine itself loads. -/
theorem ReservedBitsFixed.withLoaded {s : State} (h : ReservedBitsFixed s) (badVAddr epc : Word) (count status cause : Word32) :
    ReservedBitsFixed (s.withCp0 { s.cp0 with
      badVAddr := badVAddr, epc := epc, count := count, status := status, cause := cause }) := h

theorem ReservedBitsFixed.sampled {s : State} (h : ReservedBitsFixed s) : ReservedBitsFixed s.sampled :=
  (h.withLoaded _ _ _ _ _).congr rfl rfl

theorem ReservedBitsFixed.takeException {s : State} (h : ReservedBitsFixed s) (e : Exc) : ReservedBitsFixed (s.takeException e) :=
  (h.withLoaded _ _ _ _ _).congr rfl rfl

theorem ReservedBitsFixed.betweenSteps {s : State} (h : ReservedBitsFixed s) (n : Nat) : ReservedBitsFixed (s.betweenSteps n) :=
  (h.withLoaded _ _ _ _ _).congr rfl rfl

theorem ReservedBitsFixed.returnFromException {s : State} (h : ReservedBitsFixed s) : ReservedBitsFixed s.returnFromException := by
  rcases returnFromException_cases s with ⟨-, hr⟩ | ⟨-, hr⟩
  · rw [hr]
    exact (h.withLoaded _ _ _ _ _).congr rfl rfl
  · rw [hr]
    exact (h.withLoaded _ _ _ _ _).congr rfl rfl

/-- The update of Random writes bits 5:0 only (10_state R36, R37). -/
theorem ReservedBitsFixed.updateRandom {s : State} (h : ReservedBitsFixed s) : ReservedBitsFixed s.updateRandom := by
  have hrandom : s.updateRandom.cp0.random &&& 0xFFFFFFC0 = s.cp0.random &&& 0xFFFFFFC0 :=
    insertField_and_of_disjoint _ 0 _ _ (by omega) (by decide)
  unfold ReservedBitsFixed at h ⊢
  rw [hrandom]
  exact h

/-- A move writes a register through that register's own mask, and no other register the invariant names (10_state R32). -/
theorem ReservedBitsFixed.cp0Write {s : State} (h : ReservedBitsFixed s) (n : Reg) (v : Word) :
    ReservedBitsFixed (s.cp0Write n v) := by
  unfold ReservedBitsFixed at h ⊢
  have hbe : s.params.wmask.config.getLsbD 15 = false → s.cp0.config.getLsbD 15 = true := fun hm => by simp only [h, hm]
  rw [State.cp0Write_cp0, State.cp0Write_params]
  unfold Cp0.write
  cases cp0Reg n
  case config =>
    simp only [h, HoldsFixed.maskedWrite, true_and, and_true]
    intro hm
    rw [getLsbD_maskedWrite_of_withheld _ _ hm]
    exact hbe hm
  all_goals
    simp only [h, HoldsFixed.maskedWrite, true_and, and_true]
    exact hbe

/-- Every effect of an instruction keeps the fixed bits. -/
theorem Effect.reservedBitsFixed {i : Instr} {s t : State} (he : Effect i s t) (h : ReservedBitsFixed s) : ReservedBitsFixed t := by
  cases he with
  | wroteGpr r v => exact h.congr (by simp) (by simp)
  | wroteCp0 rd v hi => exact (h.cp0Write rd v).congr rfl rfl
  | wroteTlb hr hi => exact h.congr rfl rfl
  | returned hi hd => exact h.returnFromException
  | branched r v target hi hne hd => exact h.congr (by simp) (by simp)
  | skipped r v hi hne hd => exact h.congr (by simp) (by simp)
  | stored w vaddr v hr => exact h.congr rfl rfl
  | misaligned e vaddr hv => exact h.takeException e
  | unusable hi hc => exact h.takeException _

/-- Settles O54: each of the three ways a step can go keeps the fixed bits, and so do the ticks after it. -/
theorem reservedBitsKept : Obligations.ReservedBitsKept := by
  intro s t h hs
  obtain ⟨u, rfl, ⟨-, rfl⟩ | ⟨e, -, rfl⟩ | ⟨i, v, -, he, rfl⟩⟩ := step_cases s t hs
  · exact (h.sampled.takeException _).betweenSteps _
  · exact (h.sampled.takeException e).updateRandom.betweenSteps _
  · exact (he.reservedBitsFixed h.sampled).updateRandom.betweenSteps _

-- The launch: parameters, program text and floating-point registers.

/-- From s to t nothing of the launch changed: its parameters and the step counter, the floating-point registers, and every byte
of the program text. -/
def KeepsLaunch (s t : State) : Prop :=
  SameLaunch s t ∧ t.fpr = s.fpr ∧ ∀ a : Nat, inRegions s.programText a = true → t.mem.read a = s.mem.read a

/-- With memory unchanged, so are the bytes of the program text. -/
theorem KeepsLaunch.of_mem_eq {s t : State} (hl : SameLaunch s t) (hf : t.fpr = s.fpr) (hm : t.mem = s.mem) : KeepsLaunch s t :=
  ⟨hl, hf, fun a _ => by rw [hm]⟩

theorem KeepsLaunch.trans {s t u : State} (h₁ : KeepsLaunch s t) (h₂ : KeepsLaunch t u) : KeepsLaunch s u := by
  obtain ⟨⟨hp₁, ht₁, hr₁, hn₁⟩, hf₁, hm₁⟩ := h₁
  obtain ⟨⟨hp₂, ht₂, hr₂, hn₂⟩, hf₂, hm₂⟩ := h₂
  refine ⟨⟨hp₂.trans hp₁, ht₂.trans ht₁, hr₂.trans hr₁, hn₂.trans hn₁⟩, hf₂.trans hf₁, fun a ha => ?_⟩
  rw [hm₂ a (by rw [ht₁]; exact ha), hm₁ a ha]

theorem keepsLaunch_sampled (s : State) : KeepsLaunch s s.sampled := .of_mem_eq ⟨rfl, rfl, rfl, rfl⟩ rfl rfl

theorem keepsLaunch_takeException (s : State) (e : Exc) : KeepsLaunch s (s.takeException e) :=
  .of_mem_eq ⟨rfl, rfl, rfl, rfl⟩ rfl rfl

theorem keepsLaunch_updateRandom (s : State) : KeepsLaunch s s.updateRandom := .of_mem_eq ⟨rfl, rfl, rfl, rfl⟩ rfl rfl

theorem keepsLaunch_returnFromException (s : State) : KeepsLaunch s s.returnFromException := by
  rcases returnFromException_cases s with ⟨-, hr⟩ | ⟨-, hr⟩
  · rw [hr]
    exact .of_mem_eq ⟨rfl, rfl, rfl, rfl⟩ rfl rfl
  · rw [hr]
    exact .of_mem_eq ⟨rfl, rfl, rfl, rfl⟩ rfl rfl

/-- An address of the regions lies outside a range that touches none of them. -/
theorem outside_of_touchesAny_eq_false {rs : List Region} {a n b : Nat} (h : touchesAny rs a n = false)
    (hb : inRegions rs b = true) : ¬ (a ≤ b ∧ b < a + n) := by
  rintro ⟨hle, hlt⟩
  have hfree := List.any_eq_false.mp h (b - a) (List.mem_range.mpr (by omega))
  rw [show a + (b - a) = b by omega] at hfree
  exact hfree hb

/-- A store that completes lies outside the program text (20_memory R154). -/
theorem keepsLaunch_store {s : State} {w : Width} {vaddr : Word} (v : Word) (hr : StoreReady s vaddr w) :
    KeepsLaunch s (s.withMem (s.mem.writeBE (physicalOf vaddr).toNat w.bytes v)).advance := by
  obtain ⟨-, -, -, -, htext, -⟩ := hr
  exact ⟨⟨rfl, rfl, rfl, rfl⟩, rfl, fun a ha =>
    Memory.read_writeBE_of_outside _ _ _ _ a (outside_of_touchesAny_eq_false htext ha)⟩

/-- Every effect of an instruction keeps the launch: only a store writes memory. -/
theorem Effect.keepsLaunch {i : Instr} {s t : State} (he : Effect i s t) : KeepsLaunch s t := by
  cases he with
  | wroteGpr r v => exact .of_mem_eq (by simp [SameLaunch]) (by simp) (by simp)
  | wroteCp0 rd v hi => exact .of_mem_eq ⟨rfl, rfl, rfl, rfl⟩ rfl rfl
  | wroteTlb hr hi => exact .of_mem_eq ⟨rfl, rfl, rfl, rfl⟩ rfl rfl
  | returned hi hd => exact keepsLaunch_returnFromException s
  | branched r v target hi hne hd => exact .of_mem_eq (by simp [SameLaunch]) (by simp) (by simp)
  | skipped r v hi hne hd => exact .of_mem_eq (by simp [SameLaunch]) (by simp) (by simp)
  | stored w vaddr v hr => exact keepsLaunch_store v hr
  | misaligned e vaddr hv => exact keepsLaunch_takeException s e
  | unusable hi hc => exact keepsLaunch_takeException s _

/-- A step keeps the launch up to its ticks, which change the timer and the step counter only. -/
theorem step_keepsLaunch {s t : State} (h : step s = .next t) :
    ∃ u, KeepsLaunch s u ∧ t = u.betweenSteps (Config.tickSchedule s.time) := by
  obtain ⟨u, ht, ⟨-, rfl⟩ | ⟨e, -, rfl⟩ | ⟨i, v, -, he, rfl⟩⟩ := step_cases s t h
  · exact ⟨_, (keepsLaunch_sampled s).trans (keepsLaunch_takeException _ _), ht⟩
  · exact ⟨_, ((keepsLaunch_sampled s).trans (keepsLaunch_takeException _ e)).trans (keepsLaunch_updateRandom _), ht⟩
  · exact ⟨_, ((keepsLaunch_sampled s).trans he.keepsLaunch).trans (keepsLaunch_updateRandom v), ht⟩

/-- Settles O55: the step keeps the launch up to the ticks, and the ticks move the step counter by one. -/
theorem launchKept : Obligations.LaunchKept := by
  intro s t h
  obtain ⟨u, ⟨⟨hphys, htext, hparams, htime⟩, hfpr, hbytes⟩, rfl⟩ := step_keepsLaunch h
  exact ⟨hphys, htext, hparams, hfpr, by rw [State.betweenSteps_time, htime], hbytes⟩

-- The external lines.

/-- Settles O9: `withLines` writes the field at bits 14:10 of Cause and no other bit. -/
theorem externalLinesSampled : Obligations.ExternalLinesSampled := by
  intro s
  have hlines : s.sampled.cp0.cause = withLines s.cp0.cause (Config.extIP s.time) := rfl
  refine ⟨?_, ?_, rfl, rfl⟩
  · rw [hlines]
    exact extract_insertField _ 10 _ (by omega)
  · rw [hlines]
    exact insertField_and_of_disjoint _ 10 _ _ (by omega) (by decide)

-- Reset.

/-- With erl = 1 the mode is kernel (60_exceptions R324). -/
theorem effectiveMode_of_erl {st : Word32} (h : statusErl st = true) : effectiveMode st = .kernel := by
  simp [effectiveMode, h]

/-- With erl = 1 no interrupt is taken (60_exceptions R306). -/
theorem interruptTaken_of_erl {st : Word32} (h : statusErl st = true) (cause : Word32) : interruptTaken st cause = false := by
  simp [interruptTaken, h]

/-- Random at 31 is in range whatever Wired is (10_state R38). -/
theorem randomInRange_of_randomField_eq {s : State} (h : randomField s.cp0 = 31) : RandomInRange s := by
  have h31 : (randomField s.cp0).toNat = 31 := by rw [h]; rfl
  exact ⟨by omega, fun hw => by omega⟩

/-- The state after reset with the suggested parameters is one that R101 allows. -/
theorem afterReset_reset : AfterReset State.reset := by
  unfold AfterReset CauseUnusedZero ReservedBitsFixed HoldsFixed
  decide

/-- Settles O60: erl, which R101 sets, gives the mode and holds off interrupts; Random at 31 gives its range. -/
theorem resetMachine : Obligations.ResetMachine := by
  refine ⟨fun s h => ?_, afterReset_reset, Memory.wf_nil, rfl, rfl, rfl, rfl⟩
  obtain ⟨-, -, -, hrandom, -, herl, -, -, -, -, hcause, -, -, -, hfixed⟩ := h
  exact ⟨effectiveMode_of_erl herl, interruptTaken_of_erl herl, randomInRange_of_randomField_eq hrandom, hcause, hfixed⟩

end Sys2Proof.Machine
end

section
/-! PROOFS. The family 10_state: the general registers, the CP0 registers as the moves see them, Random and the TLB, the clock, and
what every step keeps of CP0. First the equations of each operation, then the invariants, each from one lemma per update and the
inversion lemmas of the step. -/

namespace Sys2Proof.Machine

-- CP0Write, register by register (10_state R32).

/-- A named CP0 register has one number (10_state R30). -/
theorem eq_of_cp0Reg_eq : ∀ {m n : Reg}, cp0Reg m ≠ .unnamed → cp0Reg n = cp0Reg m → n = m := by decide

section
variable (c : Cp0) (p : Params) (n : Reg) (v : Word)

@[simp] theorem Cp0.write_random : (c.write p n v).random = c.random := by
  unfold Cp0.write; cases cp0Reg n <;> rfl

theorem Cp0.write_wired :
    (c.write p n v).wired = if cp0Reg n = .wired then maskedWrite c.wired (low32 v) p.wmask.wired else c.wired := by
  unfold Cp0.write; cases cp0Reg n <;> rfl

theorem Cp0.write_compare :
    (c.write p n v).compare = if cp0Reg n = .compare then maskedWrite c.compare (low32 v) p.wmask.compare else c.compare := by
  unfold Cp0.write; cases cp0Reg n <;> rfl

theorem Cp0.write_status :
    (c.write p n v).status = if cp0Reg n = .status then maskedWrite c.status (low32 v) p.wmaskStatus else c.status := by
  unfold Cp0.write; cases cp0Reg n <;> rfl

/-- Cause has two writers: its own number, and Compare, which clears ip7 (10_state R54, R80). -/
theorem Cp0.write_cause :
    (c.write p n v).cause = if cp0Reg n = .compare then withIp7 c.cause false
      else if cp0Reg n = .cause then maskedWrite c.cause (low32 v) wmaskCause else c.cause := by
  unfold Cp0.write; cases cp0Reg n <;> rfl

theorem Cp0.write_prId :
    (c.write p n v).prId = if cp0Reg n = .prId then maskedWrite c.prId (low32 v) p.wmask.prId else c.prId := by
  unfold Cp0.write; cases cp0Reg n <;> rfl

theorem Cp0.write_parityError :
    (c.write p n v).parityError =
      if cp0Reg n = .parityError then maskedWrite c.parityError (low32 v) p.wmask.parityError else c.parityError := by
  unfold Cp0.write; cases cp0Reg n <;> rfl

theorem Cp0.write_cacheError :
    (c.write p n v).cacheError =
      if cp0Reg n = .cacheError then maskedWrite c.cacheError (low32 v) p.wmask.cacheError else c.cacheError := by
  unfold Cp0.write; cases cp0Reg n <;> rfl

theorem Cp0.write_tagHi :
    (c.write p n v).tagHi = if cp0Reg n = .tagHi then maskedWrite c.tagHi (low32 v) p.wmask.tagHi else c.tagHi := by
  unfold Cp0.write; cases cp0Reg n <;> rfl

theorem Cp0.write_errorEPC :
    (c.write p n v).errorEPC = if cp0Reg n = .errorEPC then maskedWrite c.errorEPC v p.wmask.errorEPC else c.errorEPC := by
  unfold Cp0.write; cases cp0Reg n <;> rfl

/-- Random and the unnamed numbers keep what they hold (10_state R36, R34). -/
theorem Cp0.write_of_random_or_unnamed (h : cp0Reg n = .random ∨ cp0Reg n = .unnamed) : c.write p n v = c := by
  unfold Cp0.write
  rcases h with h | h <;> rw [h]

end

-- ERET and an instruction, as CP0 and the TLB see them.

/-- ERET changes exl or erl of Status and no other CP0 register (40_cp0_instructions R206). -/
theorem returnFromException_cp0 (s : State) :
    s.returnFromException.cp0 = { s.cp0 with
      status := if statusErl s.cp0.status then withErl s.cp0.status false else withExl s.cp0.status false } := by
  rcases returnFromException_cases s with ⟨he, hr⟩ | ⟨he, hr⟩ <;> rw [hr] <;> simp [he]

/-- What an instruction can do to the CP0 registers: nothing, CP0Write, an exception's entry, or ERET. -/
theorem Effect.cp0_cases {i : Instr} {s t : State} (he : Effect i s t) :
    t.cp0 = s.cp0 ∨ (∃ rd v, cp0Destination i = some rd ∧ t.cp0 = s.cp0.write s.params rd v) ∨
      (∃ e, t.cp0 = (s.takeException e).cp0) ∨ t.cp0 = s.returnFromException.cp0 := by
  cases he with
  | wroteGpr r v => exact .inl (by simp)
  | wroteCp0 rd v hi => exact .inr (.inl ⟨rd, v, hi, rfl⟩)
  | wroteTlb hr hi => exact .inl rfl
  | returned hi hd => exact .inr (.inr (.inr rfl))
  | branched r v target hi hne hd => exact .inl (by simp)
  | skipped r v hi hne hd => exact .inl (by simp)
  | stored w vaddr v hr => exact .inl rfl
  | misaligned e vaddr hv => exact .inr (.inr (.inl ⟨e, rfl⟩))
  | unusable hi hc => exact .inr (.inr (.inl ⟨_, rfl⟩))

/-- Only TLBWR writes the TLB (20_memory R156). -/
theorem Effect.tlb_eq {i : Instr} {s t : State} (he : Effect i s t) (hne : i ≠ .tlbwr) : t.tlb = s.tlb := by
  cases he with
  | wroteGpr r v => simp
  | wroteCp0 rd v hi => rfl
  | wroteTlb hr hi => exact absurd hi hne
  | returned hi hd => rcases returnFromException_cases s with ⟨-, hr⟩ | ⟨-, hr⟩ <;> rw [hr]
  | branched r v target hi hne hd => simp
  | skipped r v hi hne hd => simp
  | stored w vaddr v hr => rfl
  | misaligned e vaddr hv => rfl
  | unusable hi hc => rfl

-- Random (10_state R36 to R38).

/-- The update of Random, with the test of R37 on numbers. -/
theorem randomField_updateRandom (s : State) :
    randomField s.updateRandom.cp0 =
      if (randomField s.cp0).toNat ≤ (wiredField s.cp0).toNat then 31 else randomField s.cp0 - 1 :=
  extract_insertField s.cp0.random 0 _ (by omega)

/-- The update of Random brings it into its range from any value up to 31, wherever Wired stands (10_state R38). -/
theorem randomInRange_updateRandom {s : State} (h : (randomField s.cp0).toNat ≤ 31) : RandomInRange s.updateRandom := by
  have hw : wiredField s.updateRandom.cp0 = wiredField s.cp0 := rfl
  unfold RandomInRange
  rw [randomField_updateRandom, hw]
  split
  · exact ⟨by decide, fun hle => hle⟩
  · next hlt =>
    have hsub : (randomField s.cp0 - 1).toNat = (randomField s.cp0).toNat - 1 := by
      rw [BitVec.toNat_sub_of_le (by rw [BitVec.le_def]; simp; omega)]; rfl
    rw [hsub]
    omega

/-- The range speaks of Random and Wired only. -/
theorem RandomInRange.congr {s t : State} (h : RandomInRange s) (hr : t.cp0.random = s.cp0.random)
    (hw : t.cp0.wired = s.cp0.wired) : RandomInRange t := by
  unfold RandomInRange randomField wiredField at h ⊢
  rw [hr, hw]
  exact h

/-- No instruction writes Random: a move to it is discarded (10_state R36). -/
theorem Effect.random_eq {i : Instr} {s t : State} (he : Effect i s t) : t.cp0.random = s.cp0.random := by
  rcases he.cp0_cases with h | ⟨rd, v, -, h⟩ | ⟨e, h⟩ | h
  · rw [h]
  · rw [h, Cp0.write_random]
  · rw [h]; rfl
  · rw [h, returnFromException_cp0]

/-- Every step leaves Random and Wired alone at an interrupt, and otherwise ends, up to its ticks, with the update of Random in a
state v that still holds the old value of it. -/
theorem step_random {s t : State} (h : step s = .next t) :
    (TakesInterrupt s ∧ t.cp0.random = s.cp0.random ∧ t.cp0.wired = s.cp0.wired) ∨
      (¬ TakesInterrupt s ∧ ∃ v : State, v.cp0.random = s.cp0.random ∧
        t = v.updateRandom.betweenSteps (Config.tickSchedule s.time)) := by
  obtain ⟨u, rfl, ⟨hi, rfl⟩ | ⟨e, hf, rfl⟩ | ⟨i, v, hx, he, rfl⟩⟩ := step_cases s t h
  · exact .inl ⟨hi, rfl, rfl⟩
  · exact .inr ⟨fun hi => (nomatch hi.symm.trans hf), s.sampled.takeException e, rfl, rfl⟩
  · exact .inr ⟨fun hi => (nomatch hi.symm.trans hx), v, he.random_eq, rfl⟩

/-- Settles O52: an interrupt touches neither register; every other step ends with the update, which restores the range whatever the
instruction wrote to Wired. -/
theorem randomRangeKept : Obligations.RandomRangeKept := by
  intro s t hs h
  rcases step_random h with ⟨-, hr, hw⟩ | ⟨-, v, hv, rfl⟩
  · exact hs.congr hr hw
  · have hle : (randomField v.cp0).toNat ≤ 31 := by
      unfold randomField
      rw [hv]
      exact hs.1
    exact (randomInRange_updateRandom hle).congr rfl rfl

/-- Settles O50: the update keeps bits 31:6 and reads the Wired that the instruction left. -/
theorem randomUpdate : Obligations.RandomUpdate := by
  intro s t h
  rcases step_random h with ⟨hi, hr, -⟩ | ⟨hi, v, hv, rfl⟩
  · exact ⟨fun _ => hr, fun hn => absurd hi hn⟩
  · refine ⟨fun hn => absurd hn hi, fun _ => ⟨?_, ?_⟩⟩
    · rw [← hv]
      exact extract_insertField_of_disjoint v.cp0.random 0 6 _ (by omega) (by omega)
    · have hfield : randomField s.cp0 = randomField v.cp0 := by unfold randomField; rw [hv]
      rw [hfield]
      exact randomField_updateRandom v

-- The always-zero bits of Cause (10_state R75).

/-- Any change of Cause that keeps these bits keeps the invariant. -/
theorem CauseUnusedZero.of_and_eq {s t : State} (h : CauseUnusedZero s)
    (hc : t.cp0.cause &&& 0x4FFF0083 = s.cp0.cause &&& 0x4FFF0083) : CauseUnusedZero t :=
  hc.trans h

theorem CauseUnusedZero.sampled {s : State} (h : CauseUnusedZero s) : CauseUnusedZero s.sampled :=
  h.of_and_eq (withLines_unused _ _)

theorem CauseUnusedZero.betweenSteps {s : State} (h : CauseUnusedZero s) (n : Nat) : CauseUnusedZero (s.betweenSteps n) :=
  h.of_and_eq (withIp7_unused _ _)

theorem CauseUnusedZero.updateRandom {s : State} (h : CauseUnusedZero s) : CauseUnusedZero s.updateRandom := h

/-- An entry writes the code, ce and perhaps bd. -/
theorem CauseUnusedZero.takeException {s : State} (h : CauseUnusedZero s) (e : Exc) : CauseUnusedZero (s.takeException e) := by
  apply h.of_and_eq
  rw [State.takeException_cp0_cause, withCe_unused, withExcCode_unused]
  split
  · exact withBd_unused _ _
  · rfl

/-- A move reaches ip0, ip1 and, through Compare, ip7 (10_state R54, R80). -/
theorem Cp0.write_cause_unused (c : Cp0) (p : Params) (n : Reg) (v : Word) :
    (c.write p n v).cause &&& 0x4FFF0083 = c.cause &&& 0x4FFF0083 := by
  rw [Cp0.write_cause]
  split
  · exact withIp7_unused _ _
  · split
    · exact maskedWrite_and_of_disjoint _ _ _ _ (by decide)
    · rfl

theorem Effect.causeUnusedZero {i : Instr} {s t : State} (he : Effect i s t) (h : CauseUnusedZero s) : CauseUnusedZero t := by
  rcases he.cp0_cases with hc | ⟨rd, v, -, hc⟩ | ⟨e, hc⟩ | hc
  · exact h.of_and_eq (by rw [hc])
  · exact h.of_and_eq (by rw [hc, Cp0.write_cause_unused])
  · exact (h.takeException e).of_and_eq (by rw [hc])
  · exact h.of_and_eq (by rw [hc, returnFromException_cp0])

/-- Settles O53: each of the three ways a step can go keeps these bits, and so do the ticks, which write ip7 only. -/
theorem causeUnusedKept : Obligations.CauseUnusedKept := by
  intro s t hs h
  obtain ⟨u, rfl, ⟨-, rfl⟩ | ⟨e, -, rfl⟩ | ⟨i, v, -, he, rfl⟩⟩ := step_cases s t h
  · exact (hs.sampled.takeException _).betweenSteps _
  · exact (hs.sampled.takeException e).updateRandom.betweenSteps _
  · exact (he.causeUnusedZero hs.sampled).updateRandom.betweenSteps _

-- The clock (10_state R49 to R55).

/-- One tick with count_half = 0 (10_state R49). -/
theorem Timer.tick_of_not_half (compare count : Word32) (ip7 : Bool) :
    Timer.tick compare ⟨count, false, ip7⟩ = ⟨count, true, ip7⟩ := rfl

/-- One tick with count_half = 1 (10_state R49). -/
theorem Timer.tick_of_half (compare count : Word32) (ip7 : Bool) :
    Timer.tick compare ⟨count, true, ip7⟩ = ⟨count + 1#32, false, ip7 || count + 1#32 == compare⟩ := rfl

/-- Count with count_half below it, the 33-bit counter of 10_state R50. -/
def Timer.counter (t : Timer) : BitVec 33 := t.count ++ BitVec.ofBool t.half

theorem Timer.toNat_counter (t : Timer) : t.counter.toNat = t.count.toNat * 2 + t.half.toNat := BitVec.toNat_concat _ _

/-- One tick adds one to the counter: the half cycle is its lowest bit. -/
theorem Timer.counter_tick (compare : Word32) (t : Timer) : (t.tick compare).counter = t.counter + 1#33 := by
  apply BitVec.eq_of_toNat_eq
  rw [BitVec.toNat_add, Timer.toNat_counter, Timer.toNat_counter]
  obtain ⟨count, half, ip7⟩ := t
  have hlt := count.isLt
  cases half with
  | false =>
    simp only [Timer.tick_of_not_half, Bool.toNat_false, Bool.toNat_true, BitVec.toNat_ofNat]
    omega
  | true =>
    simp only [Timer.tick_of_half, Bool.toNat_false, Bool.toNat_true, BitVec.toNat_add, BitVec.toNat_ofNat]
    omega

theorem Timer.counter_ticks (compare : Word32) (n : Nat) (t : Timer) :
    (Timer.ticks compare n t).counter = t.counter + BitVec.ofNat 33 n := by
  induction n generalizing t with
  | zero => simp [Timer.ticks]
  | succ n ih =>
    calc (Timer.ticks compare n (t.tick compare)).counter
        = (t.tick compare).counter + BitVec.ofNat 33 n := ih _
      _ = t.counter + (BitVec.ofNat 33 n + 1#33) := by rw [Timer.counter_tick, BitVec.add_assoc, BitVec.add_comm 1#33]
      _ = t.counter + BitVec.ofNat 33 (n + 1) := by rw [BitVec.ofNat_add]

theorem add_one_add_ofNat (c : Word32) (k : Nat) : c + 1#32 + BitVec.ofNat 32 k = c + BitVec.ofNat 32 (k + 1) := by
  rw [BitVec.add_assoc, BitVec.add_comm 1#32, BitVec.ofNat_add]

/-- When n ticks leave ip7 set: it was, or one of the increments among them reached Compare; there are (n + 1) / 2 of these from the
second half of a cycle, n / 2 from the first. -/
theorem Timer.ticks_ip7 (compare : Word32) (n : Nat) (t : Timer) :
    (Timer.ticks compare n t).ip7 = true ↔
      t.ip7 = true ∨ ∃ k : Nat, 1 ≤ k ∧ k ≤ (n + t.half.toNat) / 2 ∧ t.count + BitVec.ofNat 32 k = compare := by
  induction n generalizing t with
  | zero =>
    have hnone : ¬ ∃ k : Nat, 1 ≤ k ∧ k ≤ (0 + t.half.toNat) / 2 ∧ t.count + BitVec.ofNat 32 k = compare := by
      rintro ⟨k, hk, hle, -⟩
      have := t.half.toNat_le
      omega
    exact ⟨.inl, fun h => h.resolve_right hnone⟩
  | succ n ih =>
    obtain ⟨count, half, ip7⟩ := t
    refine (ih _).trans ?_
    cases half with
    | false =>
      rw [Timer.tick_of_not_half]
      simp only [Bool.toNat_true, Bool.toNat_false, Nat.add_zero]
    | true =>
      rw [Timer.tick_of_half]
      simp only [Bool.toNat_true, Bool.toNat_false, Nat.add_zero, Bool.or_eq_true, beq_iff_eq, or_assoc]
      refine or_congr Iff.rfl ⟨?_, ?_⟩
      · rintro (h1 | ⟨k, hk, hle, hc⟩)
        · exact ⟨1, le_rfl, by omega, h1⟩
        · exact ⟨k + 1, by omega, by omega, by rw [← add_one_add_ofNat, hc]⟩
      · rintro ⟨_ | _ | k, hk, hle, hc⟩
        · exact absurd hk (by omega)
        · exact .inl hc
        · exact .inr ⟨k + 1, by omega, by omega, by rw [add_one_add_ofNat, hc]⟩

/-- Settles O48: the state's two fields are the timer's counter. -/
theorem countTicks : Obligations.CountTicks :=
  fun s n => Timer.counter_ticks s.cp0.compare n s.timer

/-- Settles O49: ip7 after the ticks is the timer's. -/
theorem timerInterrupt : Obligations.TimerInterrupt := by
  intro s n
  have hip7 : (s.ticks n).cp0.cause.getLsbD 15 = (Timer.ticks s.cp0.compare n s.timer).ip7 :=
    causeIp7_withIp7 s.cp0.cause _
  rw [hip7]
  exact Timer.ticks_ip7 s.cp0.compare n s.timer

/-- ip7 written with the value it has. -/
theorem withIp7_causeIp7 (c : Word32) : withIp7 c (causeIp7 c) = c := by
  apply BitVec.eq_of_getLsbD_eq
  intro i _
  rw [withIp7, getLsbD_insertField c 15 _ (by omega)]
  split
  · next hi =>
    obtain rfl : i = 15 := by omega
    cases h : causeIp7 c <;> simp_all [causeIp7, bit1]
  · rfl

theorem withIp7_true (c : Word32) : withIp7 c true = c ||| 0x8000 := by
  apply BitVec.eq_of_getLsbD_eq
  intro i hi
  simp only [withIp7, insertField, bit1, BitVec.getLsbD_or, BitVec.getLsbD_and]
  interval_cases i <;> simp

theorem withIp7_false (c : Word32) : withIp7 c false = c &&& 0xFFFF7FFF := by
  simp [withIp7, insertField, bit1]

/-- An increment of Count that writes ip7: set if the new Count equals Compare, else what it was (10_state R49). -/
theorem withIp7_or (c count compare : Word32) :
    withIp7 c (causeIp7 c || count == compare) = if count = compare then c ||| 0x8000 else c := by
  by_cases h : count = compare
  · rw [if_pos h, h, beq_self_eq_true, Bool.or_true, withIp7_true]
  · rw [if_neg h, beq_false_of_ne h, Bool.or_false, withIp7_causeIp7]

/-- Settles O47: with count_half = 1 the tick increments Count; else it writes back the Count and the ip7 it found. -/
theorem tick : Obligations.Tick := by
  intro s
  have htick : s.ticks 1 = s.withTimer (s.timer.tick s.cp0.compare) := rfl
  rw [htick]
  constructor
  · intro hhalf
    rw [State.timer, hhalf, Timer.tick_of_half, State.withTimer, withIp7_or]
    rfl
  · intro hhalf
    rw [State.timer, hhalf, Timer.tick_of_not_half, State.withTimer, withIp7_causeIp7]

-- Who may change what.

/-- What happens to the CP0 registers that only a move changes, and to the bits of Status and Cause of which that holds, from c to d
when the step moves to the CP0 numbers for which `moved` holds, under the parameters p. -/
structure OnlyMovesChange (moved : Reg → Prop) (p : Params) (c d : Cp0) : Prop where
  parityError : ¬ moved 26 → d.parityError = c.parityError
  cacheError : ¬ moved 27 ∨ p.wmask.cacheError = 0 → d.cacheError = c.cacheError
  tagHi : ¬ moved 29 ∨ p.wmask.tagHi = 0 → d.tagHi = c.tagHi
  prId : ¬ moved 15 ∨ p.wmask.prId = 0 → d.prId = c.prId
  status : ¬ moved 12 → d.status &&& 0xFFFFFFF9 = c.status &&& 0xFFFFFFF9
  compare : ¬ moved 11 → d.compare = c.compare
  ip7 : ¬ moved 11 → causeIp7 c.cause = true → causeIp7 d.cause = true
  wired : ¬ moved 6 → d.wired = c.wired
  errorEPC : ¬ moved 30 → d.errorEPC = c.errorEPC

section
variable {moved : Reg → Prop} {p : Params}

theorem OnlyMovesChange.trans {c d e : Cp0} (h₁ : OnlyMovesChange moved p c d) (h₂ : OnlyMovesChange moved p d e) :
    OnlyMovesChange moved p c e where
  parityError h := (h₂.parityError h).trans (h₁.parityError h)
  cacheError h := (h₂.cacheError h).trans (h₁.cacheError h)
  tagHi h := (h₂.tagHi h).trans (h₁.tagHi h)
  prId h := (h₂.prId h).trans (h₁.prId h)
  status h := (h₂.status h).trans (h₁.status h)
  compare h := (h₂.compare h).trans (h₁.compare h)
  ip7 h hc := h₂.ip7 h (h₁.ip7 h hc)
  wired h := (h₂.wired h).trans (h₁.wired h)
  errorEPC h := (h₂.errorEPC h).trans (h₁.errorEPC h)

/-- What the machine writes of its own accord: Random, BadVAddr, EPC and Count, in Status exl and erl only, and of Cause nothing that
clears ip7. -/
theorem OnlyMovesChange.of_loaded (c : Cp0) {status cause : Word32} (random count : Word32) (badVAddr epc : Word)
    (hstatus : status &&& 0xFFFFFFF9 = c.status &&& 0xFFFFFFF9) (hip7 : causeIp7 c.cause = true → causeIp7 cause = true) :
    OnlyMovesChange moved p c { c with
      random := random, count := count, badVAddr := badVAddr, epc := epc, status := status, cause := cause } where
  parityError _ := rfl
  cacheError _ := rfl
  tagHi _ := rfl
  prId _ := rfl
  status _ := hstatus
  compare _ := rfl
  ip7 _ := hip7
  wired _ := rfl
  errorEPC _ := rfl

theorem onlyMovesChange_refl (c : Cp0) : OnlyMovesChange moved p c c := .of_loaded c _ _ _ _ rfl id

theorem onlyMovesChange_sampled (s : State) : OnlyMovesChange moved p s.cp0 s.sampled.cp0 :=
  .of_loaded s.cp0 _ _ _ _ rfl (fun h => by rw [causeIp7_withLines, h])

theorem withExl_and_kept (st : Word32) (b : Bool) : withExl st b &&& 0xFFFFFFF9 = st &&& 0xFFFFFFF9 :=
  insertField_and_of_disjoint _ 1 _ _ (by omega) (by decide)

theorem withErl_and_kept (st : Word32) (b : Bool) : withErl st b &&& 0xFFFFFFF9 = st &&& 0xFFFFFFF9 :=
  insertField_and_of_disjoint _ 2 _ _ (by omega) (by decide)

theorem onlyMovesChange_takeException (s : State) (e : Exc) : OnlyMovesChange moved p s.cp0 (s.takeException e).cp0 := by
  refine .of_loaded s.cp0 _ _ _ _ (withExl_and_kept _ _) (fun h => ?_)
  rw [causeIp7_withCe, causeIp7_withExcCode]
  split
  · rw [causeIp7_withBd, h]
  · exact h

theorem onlyMovesChange_returnFromException (s : State) : OnlyMovesChange moved p s.cp0 s.returnFromException.cp0 := by
  rw [returnFromException_cp0]
  refine .of_loaded s.cp0 _ _ _ _ ?_ id
  split
  · exact withErl_and_kept _ _
  · exact withExl_and_kept _ _

theorem onlyMovesChange_updateRandom (s : State) : OnlyMovesChange moved p s.cp0 s.updateRandom.cp0 :=
  .of_loaded s.cp0 _ _ _ _ rfl id

/-- The ticks never clear ip7 (10_state R49, R55). -/
theorem onlyMovesChange_betweenSteps (s : State) (n : Nat) : OnlyMovesChange moved p s.cp0 (s.betweenSteps n).cp0 := by
  refine .of_loaded s.cp0 _ _ _ _ rfl (fun h => ?_)
  rw [causeIp7_withIp7]
  exact (Timer.ticks_ip7 _ n _).mpr (.inl h)

theorem maskedWrite_of_mask_eq_zero {w : Nat} {mask : BitVec w} (r v : BitVec w) (h : mask = 0) : maskedWrite r v mask = r :=
  h ▸ maskedWrite_zero r v

/-- A register is kept if another is written, or if its mask withholds every bit (10_state R32). -/
theorem ite_maskedWrite_eq {w : Nat} {hit : Prop} [Decidable hit] {r v mask : BitVec w} (h : ¬ hit ∨ mask = 0) :
    (if hit then maskedWrite r v mask else r) = r := by
  rcases h with h | h
  · exact if_neg h
  · rw [maskedWrite_of_mask_eq_zero r v h, ite_self]

/-- CP0Write to a number other than m leaves the register of m alone; ip7 it clears through Compare only (10_state R54, R80). -/
theorem Cp0.write_onlyMovesChange (c : Cp0) (n : Reg) (v : Word) (hn : moved n) :
    OnlyMovesChange moved p c (c.write p n v) := by
  have hother : ∀ {m : Reg} {r : Cp0Reg}, ¬ moved m → cp0Reg m = r → r ≠ .unnamed → ¬ cp0Reg n = r := by
    rintro m r hm rfl hr he
    exact hm (eq_of_cp0Reg_eq hr he ▸ hn)
  exact {
    parityError := fun h => (c.write_parityError p n v).trans (if_neg (hother h rfl (by decide)))
    cacheError := fun h =>
      (c.write_cacheError p n v).trans (ite_maskedWrite_eq (h.imp_left fun hm => hother hm rfl (by decide)))
    tagHi := fun h => (c.write_tagHi p n v).trans (ite_maskedWrite_eq (h.imp_left fun hm => hother hm rfl (by decide)))
    prId := fun h => (c.write_prId p n v).trans (ite_maskedWrite_eq (h.imp_left fun hm => hother hm rfl (by decide)))
    status := fun h => congrArg (· &&& 0xFFFFFFF9) ((c.write_status p n v).trans (if_neg (hother h rfl (by decide))))
    compare := fun h => (c.write_compare p n v).trans (if_neg (hother h rfl (by decide)))
    ip7 := fun h hc => by
      have hcompare : ¬ cp0Reg n = .compare := hother h rfl (by decide)
      rw [Cp0.write_cause, if_neg hcompare]
      split
      · exact (getLsbD_maskedWrite_of_withheld c.cause _ (by decide)).trans hc
      · exact hc
    wired := fun h => (c.write_wired p n v).trans (if_neg (hother h rfl (by decide)))
    errorEPC := fun h => (c.write_errorEPC p n v).trans (if_neg (hother h rfl (by decide))) }

end

/-- A move's destination is the number it moves to. -/
theorem movesTo_of_cp0Destination {s : State} {i : Instr} {n : Reg} (hx : Executes s i) (hi : cp0Destination i = some n) :
    MovesTo s n := by
  cases i with
  | mtc0 rt rd => exact Option.some.inj hi ▸ ⟨rt, .inl hx⟩
  | dmtc0 rt rd => exact Option.some.inj hi ▸ ⟨rt, .inr hx⟩
  | _ => exact nomatch hi

theorem Effect.onlyMovesChange {i : Instr} {s t : State} {moved : Reg → Prop} (he : Effect i s t)
    (hmoved : ∀ n, cp0Destination i = some n → moved n) : OnlyMovesChange moved s.params s.cp0 t.cp0 := by
  rcases he.cp0_cases with hc | ⟨rd, v, hi, hc⟩ | ⟨e, hc⟩ | hc
  · rw [hc]; exact onlyMovesChange_refl _
  · rw [hc]; exact Cp0.write_onlyMovesChange _ _ _ (hmoved rd hi)
  · rw [hc]; exact onlyMovesChange_takeException s e
  · rw [hc]; exact onlyMovesChange_returnFromException s

/-- Every step changes these registers by a move only, and the TLB by TLBWR only. -/
theorem step_onlyMovesChange {s t : State} (h : step s = .next t) :
    (¬ Executes s .tlbwr → t.tlb = s.tlb) ∧ OnlyMovesChange (MovesTo s) s.params s.cp0 t.cp0 := by
  obtain ⟨u, rfl, ⟨-, rfl⟩ | ⟨e, -, rfl⟩ | ⟨i, v, hx, he, rfl⟩⟩ := step_cases s t h
  · exact ⟨fun _ => rfl, ((onlyMovesChange_sampled s).trans (onlyMovesChange_takeException _ _)).trans
      (onlyMovesChange_betweenSteps _ _)⟩
  · exact ⟨fun _ => rfl, (((onlyMovesChange_sampled s).trans (onlyMovesChange_takeException _ e)).trans
      (onlyMovesChange_updateRandom _)).trans (onlyMovesChange_betweenSteps _ _)⟩
  · refine ⟨fun hne => he.tlb_eq (fun hi => hne (hi ▸ hx)), ?_⟩
    have hexec : OnlyMovesChange (MovesTo s) s.params s.sampled.cp0 v.cp0 :=
      he.onlyMovesChange (fun n hi => movesTo_of_cp0Destination hx hi)
    exact (((onlyMovesChange_sampled s).trans hexec).trans (onlyMovesChange_updateRandom v)).trans
      (onlyMovesChange_betweenSteps _ _)

/-- Settles O56: its clauses are the fields of the relation that every update of a step is in. -/
theorem systemStateChangers : Obligations.SystemStateChangers := by
  intro s t h
  obtain ⟨htlb, hc⟩ := step_onlyMovesChange h
  exact ⟨htlb, hc.parityError, hc.cacheError, hc.tagHi, hc.prId, hc.status, fun hm => ⟨hc.compare hm, hc.ip7 hm⟩, hc.wired,
    hc.errorEPC⟩

-- The general registers (10_state R21).

/-- Settles O20: the three facts about reads and writes of the register file. -/
theorem zeroRegister : Obligations.ZeroRegister := by
  refine ⟨State.readGpr_zero, State.writeGpr_zero, fun s r v hr => ?_⟩
  rw [State.readGpr_writeGpr_self, if_neg hr]

-- How an instruction that writes one register completes.

theorem onlyWritesGpr_complete (s : State) (r : Reg) (v : Word) : OnlyWritesGpr s (s.complete r v) r v := by
  refine ⟨s.readGpr_writeGpr_self r v, fun q hq => s.readGpr_writeGpr_of_ne r q v hq, ?_, fun a => ?_, ?_⟩
  · simp [SameSystem, SameHidden]
  · rw [State.complete_mem]
  · simp [SameLaunch]

theorem completesWriting_of_exec {i : Instr} {s : State} {r : Reg} {v : Word} (h : exec i s = .next (s.complete r v)) :
    CompletesWriting i s r v :=
  ⟨_, h, onlyWritesGpr_complete s r v, by simp [Advanced]⟩

-- CP0Read (10_state R31, R36).

/-- The low half of a register sized 32 bits is its value, whatever stands above it. -/
theorem cp0Read_low_of_narrow {s : State} {n : Reg} {v : Word32} (h : cp0Value s n = .narrow v) :
    (cp0Read s n).setWidth 32 = v := by
  rw [cp0Read, h]
  exact BitVec.setWidth_append_eq_right

theorem cp0Read_of_wide {s : State} {n : Reg} {v : Word} (h : cp0Value s n = .wide v) : cp0Read s n = v := by
  rw [cp0Read, h]

/-- Settles O36: sixteen registers are narrow, eight are wide. -/
theorem cp0ReadsStored : Obligations.Cp0ReadsStored := by
  intro s
  refine ⟨⟨?_, ?_, ?_, ?_, ?_, ?_, ?_, ?_, ?_, ?_, ?_, ?_, ?_, ?_, ?_, ?_⟩, ?_, ?_, ?_, ?_, ?_, ?_, ?_, ?_⟩
  iterate 16 exact cp0Read_low_of_narrow rfl
  all_goals exact cp0Read_of_wide rfl

theorem cp0Value_random (s : State) : cp0Value s 1 = .narrow (BitVec.ofNat 32 (randomUse s)) := rfl

/-- A small number is its own sign extension. -/
theorem sext64_ofNat {v : Nat} (h : v < 64) : sext64 (BitVec.ofNat 32 v) = BitVec.ofNat 64 v := by
  have hmsb : (BitVec.ofNat 32 v).msb = false := by
    rw [BitVec.msb_eq_false_iff_two_mul_lt, BitVec.toNat_ofNat]
    omega
  apply BitVec.eq_of_toNat_eq
  rw [sext64, BitVec.signExtend_eq_setWidth_of_msb_false hmsb, BitVec.toNat_setWidth, BitVec.toNat_ofNat, BitVec.toNat_ofNat]
  omega

/-- MFC0 of Random writes the value of one use of it (10_state R39). -/
theorem mfc0_random_completes (rt : Reg) (s : State) (h : randomUse s < 64) :
    CompletesWriting (.mfc0 rt 1) s rt (BitVec.ofNat 64 (randomUse s)) := by
  rw [← sext64_ofNat h]
  exact completesWriting_of_exec rfl

/-- Settles O37: the value is that of `randomUse`, whose range has its own lemmas. -/
theorem randomRead : Obligations.RandomRead := by
  intro rt s
  constructor
  · intro hs hw
    obtain ⟨hlo, hhi, hexact⟩ := randomUse_in_range s hs hw
    exact ⟨randomUse s, hlo, hhi, hexact, mfc0_random_completes rt s (by omega), cp0Read_low_of_narrow (cp0Value_random s)⟩
  · intro hw
    have hlt := randomUse_lt_of_wired s hw
    exact ⟨randomUse s, hlt, mfc0_random_completes rt s hlt, cp0Read_low_of_narrow (cp0Value_random s)⟩

-- TLBWR (40_cp0_instructions R205).

theorem writesTlbEntry_advance (s : State) (i : Fin 32) : WritesTlbEntry s (s.writeTlb i (tlbImage s.cp0)).advance i := by
  refine ⟨?_, fun j hj => ?_, rfl, ⟨rfl, rfl, rfl⟩, fun _ => rfl, fun _ => rfl, ⟨rfl, rfl, rfl, rfl⟩, rfl, rfl, rfl⟩
  · simp [tlbImage]
  · rw [State.advance_tlb, State.writeTlb_tlb, Vector.getElem_set_ne]
    exact fun he => hj (Fin.ext he.symm)

theorem exec_tlbwr_of_lt {s : State} (h : randomUse s < 32) :
    exec .tlbwr s = .next (s.writeTlb ⟨randomUse s, h⟩ (tlbImage s.cp0)).advance := dif_pos h

theorem exec_tlbwr_of_ge {s : State} (h : 32 ≤ randomUse s) : exec .tlbwr s = .refused .wiredOutOfRange :=
  dif_neg (Nat.not_lt.mpr h)

/-- Settles O45: the index is that of `randomUse`, which names an entry whenever Wired is at most 31. -/
theorem tlbwr : Obligations.Tlbwr := by
  refine ⟨by decide, fun s => ⟨fun hs hw => ?_, fun hw => ?_⟩⟩
  · obtain ⟨hlo, hhi, hexact⟩ := randomUse_in_range s hs hw
    have hlt : randomUse s < 32 := by omega
    exact ⟨_, ⟨randomUse s, hlt⟩, exec_tlbwr_of_lt hlt, hlo, hexact, writesTlbEntry_advance s _⟩
  · exact ⟨randomUse s, randomUse_lt_of_wired s hw, fun hlt => ⟨_, exec_tlbwr_of_lt hlt, writesTlbEntry_advance s _⟩,
      exec_tlbwr_of_ge⟩

-- The moves to CP0 (40_cp0_instructions R203, R204).

/-- The low half survives sign extension, so MTC0 and DMTC0 give a 32-bit register the same value. -/
theorem low32_sext64 (w : Word32) : low32 (sext64 w) = w := by
  apply BitVec.eq_of_getLsbD_eq
  intro i hi
  rw [low32, sext64, BitVec.getLsbD_setWidth, BitVec.getLsbD_signExtend, if_pos hi]
  simp [hi, show i < 64 by omega]

theorem onlyWritesCp0_cp0Write (s : State) (n : Reg) (v : Word) :
    OnlyWritesCp0 s (s.cp0Write n v).advance (s.cp0.write s.params n v) (countHalfAfterWrite n s.countHalf) :=
  ⟨rfl, rfl, rfl, rfl, rfl, fun _ => rfl, fun _ => rfl, rfl, rfl, rfl, rfl⟩

/-- Both moves leave what CP0Write leaves of every value with the low half of x[rt]. -/
theorem movesLeave_of_write {rt rd : Reg} {s : State} {c : Cp0} {half : Bool}
    (hc : ∀ v : Word, low32 v = low32 (s.readGpr rt) → s.cp0.write s.params rd v = c)
    (hhalf : countHalfAfterWrite rd s.countHalf = half) : MovesLeave rt rd s c half := by
  have hleaves : ∀ v : Word, low32 v = low32 (s.readGpr rt) → OnlyWritesCp0 s (s.cp0Write rd v).advance c half :=
    fun v hv => hc v hv ▸ hhalf ▸ onlyWritesCp0_cp0Write s rd v
  exact ⟨⟨_, rfl, hleaves _ (low32_sext64 _), rfl, rfl, rfl⟩, ⟨_, rfl, hleaves _ rfl, rfl, rfl, rfl⟩⟩

/-- A mask of ones stores the whole value. -/
theorem maskedWrite_allOnes (old new : Word32) : maskedWrite old new 0xFFFFFFFF = new := by
  apply BitVec.eq_of_getLsbD_eq
  intro i hi
  have hmask : (0xFFFFFFFF : Word32).getLsbD i = true := (BitVec.getLsbD_allOnes (v := 32)).trans (decide_eq_true hi)
  rw [getLsbD_maskedWrite, if_pos hmask]

/-- Settles O39: CP0Write of 11, with the write of ip7 as a mask. -/
theorem compareWrite : Obligations.CompareWrite := by
  intro rt s
  have hwrite : ∀ v : Word, low32 v = low32 (s.readGpr rt) → s.cp0.write s.params 11 v = { s.cp0 with
      compare := maskedWrite s.cp0.compare (low32 (s.readGpr rt)) s.params.wmask.compare
      cause := s.cp0.cause &&& 0xFFFF7FFF } := by
    intro v hv
    rw [← hv, ← withIp7_false]
    rfl
  refine ⟨movesLeave_of_write hwrite rfl, fun hmask => ?_⟩
  rw [hmask, maskedWrite_allOnes] at hwrite
  exact movesLeave_of_write hwrite rfl

/-- Settles O40: CP0Write of 9, the one number whose write clears count_half. -/
theorem countWrite : Obligations.CountWrite := by
  intro rt s
  have hwrite : ∀ v : Word, low32 v = low32 (s.readGpr rt) → s.cp0.write s.params 9 v = { s.cp0 with
      count := maskedWrite s.cp0.count (low32 (s.readGpr rt)) s.params.wmask.count } :=
    fun v hv => congrArg (fun lo => { s.cp0 with count := maskedWrite s.cp0.count lo s.params.wmask.count }) hv
  refine ⟨movesLeave_of_write hwrite rfl, fun hmask => ?_⟩
  rw [hmask, maskedWrite_allOnes] at hwrite
  exact movesLeave_of_write hwrite rfl

/-- Settles O41: CP0Write of 13. -/
theorem causeWrite : Obligations.CauseWrite := fun _ s =>
  movesLeave_of_write
    (fun _ hv => congrArg (fun lo => { s.cp0 with cause := maskedWrite s.cp0.cause lo wmaskCause }) hv) rfl

/-- Bits 23, 21 and 19 of WMask(12) are the parameter's, the others 1 (10_state R73). -/
theorem getLsbD_wmaskStatus (p : Params) {i : Nat} (hi : i < 32) :
    p.wmaskStatus.getLsbD i = if i = 23 ∨ i = 21 ∨ i = 19 then p.statusOpen.getLsbD i else true := by
  simp only [Params.wmaskStatus, BitVec.getLsbD_or, BitVec.getLsbD_and]
  interval_cases i <;> simp

/-- Settles O42: CP0Write of 12. -/
theorem statusWrite : Obligations.StatusWrite := fun _ s =>
  ⟨fun _ hi => getLsbD_wmaskStatus s.params hi, movesLeave_of_write
    (fun _ hv => congrArg (fun lo => { s.cp0 with status := maskedWrite s.cp0.status lo s.params.wmaskStatus }) hv) rfl⟩

/-- Random and the unnamed numbers, by number (10_state R30). -/
theorem cp0Reg_readOnly : ∀ n ∈ ([1, 7, 21, 22, 23, 24, 25, 31] : List Reg), cp0Reg n = .random ∨ cp0Reg n = .unnamed := by
  decide

theorem countHalfAfterWrite_of_random_or_unnamed {n : Reg} (h : cp0Reg n = .random ∨ cp0Reg n = .unnamed) (half : Bool) :
    countHalfAfterWrite n half = half := by
  unfold countHalfAfterWrite
  rcases h with h | h <;> rw [h]

/-- Settles O43: CP0Write discards what it is given for these numbers, and a mask of 0 keeps the register. -/
theorem readOnlyCp0 : Obligations.ReadOnlyCp0 := by
  intro rt rd s
  refine ⟨fun hrd => ?_, fun hm => ?_, fun hm => ?_, fun hm => ?_, fun hm => ?_⟩
  · have hreg := cp0Reg_readOnly rd hrd
    exact movesLeave_of_write (fun v _ => Cp0.write_of_random_or_unnamed _ _ _ v hreg)
      (countHalfAfterWrite_of_random_or_unnamed hreg _)
  all_goals refine movesLeave_of_write (fun v _ => ?_) rfl
  · exact congrArg (fun r => { s.cp0 with badVAddr := r }) (maskedWrite_of_mask_eq_zero _ v hm)
  · exact congrArg (fun r => { s.cp0 with prId := r }) (maskedWrite_of_mask_eq_zero _ (low32 v) hm)
  · exact congrArg (fun r => { s.cp0 with cacheError := r }) (maskedWrite_of_mask_eq_zero _ (low32 v) hm)
  · exact congrArg (fun r => { s.cp0 with tagHi := r }) (maskedWrite_of_mask_eq_zero _ (low32 v) hm)

/-- Settles O44: each clause is CP0Write at that number, evaluated. -/
theorem maskedCp0Writes : Obligations.MaskedCp0Writes :=
  ⟨fun _ _ _ => ⟨rfl, rfl, rfl, rfl, rfl, rfl, rfl, rfl, rfl, rfl, rfl, rfl, rfl, rfl, rfl, rfl, rfl, rfl, rfl, rfl⟩, rfl⟩

end Sys2Proof.Machine
end

section
/-! PROOFS. The family 20_memory: the canonical form of memory that every step keeps, the two kernel segments, where an access stops,
a doubleword read back after its store, and the Address Error of a misaligned fetch. First one rule for each operation, then the
statements from these rules. -/

namespace Sys2Proof.Machine

-- What a step can do to memory (20_memory R132, R139).

/-- An instruction leaves memory as it is, or is a store that writes consecutive bytes. -/
theorem Effect.mem_cases {i : Instr} {s t : State} (he : Effect i s t) :
    t.mem = s.mem ∨ ∃ a n v, t.mem = s.mem.writeBE a n v := by
  cases he with
  | wroteGpr r v => exact .inl (State.complete_mem s r v)
  | wroteCp0 rd v hi => exact .inl rfl
  | wroteTlb hr hi => exact .inl rfl
  | returned hi hd => rcases returnFromException_cases s with ⟨-, hr⟩ | ⟨-, hr⟩ <;> exact .inl (by rw [hr])
  | branched r v target hi hne hd => exact .inl (State.writeGpr_mem s r v)
  | skipped r v hi hne hd => exact .inl (State.writeGpr_mem s r v)
  | stored w vaddr v hr => exact .inr ⟨_, _, v, rfl⟩
  | misaligned e vaddr hv => exact .inl rfl
  | unusable hi hc => exact .inl rfl

/-- Nothing of a step but its instruction touches memory: sampling, an entry, the update of Random and the ticks do not. -/
theorem step_mem_cases {s t : State} (h : step s = .next t) : t.mem = s.mem ∨ ∃ a n v, t.mem = s.mem.writeBE a n v := by
  obtain ⟨u, rfl, ⟨-, rfl⟩ | ⟨e, -, rfl⟩ | ⟨i, v, -, he, rfl⟩⟩ := step_cases s t h
  · exact .inl rfl
  · exact .inl rfl
  · exact he.mem_cases

/-- Settles O51: a step writes memory by `Memory.writeBE` only, which keeps the canonical form. -/
theorem memoryCanonicalKept : Obligations.MemoryCanonicalKept := by
  intro s t hwf h
  rcases step_mem_cases h with hm | ⟨a, n, v, hm⟩
  · rw [hm]; exact hwf
  · rw [hm]; exact Memory.wf_writeBE _ _ _ _ hwf

-- Translation (20_memory R142, R143).

theorem toNat_physicalOf (vaddr : Word) : (physicalOf vaddr).toNat = vaddr.toNat % 2 ^ 29 := by
  simp only [physicalOf, BitVec.toNat_setWidth, BitVec.extractLsb'_toNat, Nat.shiftRight_zero]
  omega

/-- kseg0 and kseg1 meet: together they are one range. -/
theorem inKseg_iff (vaddr : Word) :
    (inKseg0 vaddr || inKseg1 vaddr) = true ↔ 0xFFFFFFFF80000000#64 ≤ vaddr ∧ vaddr ≤ 0xFFFFFFFFBFFFFFFF#64 := by
  simp only [inKseg0, inKseg1, Bool.or_eq_true, Bool.and_eq_true, decide_eq_true_eq]
  bv_omega

theorem translateAddress_eq (vaddr : Word) :
    translateAddress vaddr =
      if 0xFFFFFFFF80000000#64 ≤ vaddr ∧ vaddr ≤ 0xFFFFFFFFBFFFFFFF#64 then some (physicalOf vaddr) else none :=
  if_congr (inKseg_iff vaddr) rfl rfl

-- Where MemRead and MemWrite stop, in the order of their checks (20_memory R138, R139).

theorem memRead_of_reverseEndian {s : State} (hre : statusRe s.cp0.status = true) (vaddr : Word) (w : Width) :
    memRead s vaddr w = .refuse .reverseEndian := if_pos hre

theorem memWrite_of_reverseEndian {s : State} (hre : statusRe s.cp0.status = true) (vaddr : Word) (w : Width) (v : Word) :
    memWrite s vaddr w v = .refuse .reverseEndian := if_pos hre

section
variable {s : State} {vaddr : Word} {w : Width} {pa : PAddr} (hre : statusRe s.cp0.status = false)
  (hal : vaddr.toNat % w.bytes = 0)
include hre hal

theorem memRead_of_unmapped (ht : translateAddress vaddr = none) : memRead s vaddr w = .refuse .mappedAddress := by
  simp [memRead, hre, hal, ht]

theorem memWrite_of_unmapped (ht : translateAddress vaddr = none) (v : Word) :
    memWrite s vaddr w v = .refuse .mappedAddress := by
  simp [memWrite, hre, hal, ht]

theorem memRead_of_noMemory (ht : translateAddress vaddr = some pa) (hc : coversAll s.physMem pa.toNat w.bytes = false) :
    memRead s vaddr w = .fault .noSuchMemory := by
  simp [memRead, hre, hal, ht, hc]

theorem memWrite_of_noMemory (ht : translateAddress vaddr = some pa) (hc : coversAll s.physMem pa.toNat w.bytes = false)
    (v : Word) : memWrite s vaddr w v = .fault .noSuchMemory := by
  simp [memWrite, hre, hal, ht, hc]

theorem memWrite_of_programText (ht : translateAddress vaddr = some pa) (hc : coversAll s.physMem pa.toNat w.bytes = true)
    (htext : touchesAny s.programText pa.toNat w.bytes = true) (v : Word) :
    memWrite s vaddr w v = .refuse .storeToProgramText := by
  simp [memWrite, hre, hal, ht, hc, htext]

end

/-- Settles O26: translation is the one range `translateAddress_eq` names, and without it MemRead and MemWrite are refused. -/
theorem kernelSegments : Obligations.KernelSegments := by
  intro vaddr
  refine ⟨fun hin => ⟨physicalOf vaddr, ?_, toNat_physicalOf vaddr⟩, fun hout => ?_⟩
  · rw [translateAddress_eq, if_pos hin]
  · have ht : translateAddress vaddr = none := by
      rw [translateAddress_eq, if_neg (by bv_omega)]
    exact ⟨ht, fun s w v hre hal => ⟨memRead_of_unmapped hre hal ht, memWrite_of_unmapped hre hal ht v⟩⟩

-- Where the access of a load or a store stops: where MemRead or MemWrite does, and last at a watchpoint (log 34).

section
variable {s : State} {vaddr : Word} {w : Width}

theorem loadAccess_of_memRead_refuse {r : Refusal} (h : memRead s vaddr w = .refuse r) : loadAccess s vaddr w = .refuse r := by
  rw [loadAccess, h]

theorem loadAccess_of_memRead_fault {f : Fault} (h : memRead s vaddr w = .fault f) : loadAccess s vaddr w = .fault f := by
  rw [loadAccess, h]

theorem loadAccess_of_watched {x : Word} (h : memRead s vaddr w = .ok x) (hw : watchHitsLoad s vaddr = true) :
    loadAccess s vaddr w = .refuse .watchHit := by
  simp [loadAccess, h, hw]

theorem storeAccess_of_memWrite_refuse {v : Word} {r : Refusal} (h : memWrite s vaddr w v = .refuse r) :
    storeAccess s vaddr w v = .refuse r := by
  rw [storeAccess, h]

theorem storeAccess_of_memWrite_fault {v : Word} {f : Fault} (h : memWrite s vaddr w v = .fault f) :
    storeAccess s vaddr w v = .fault f := by
  rw [storeAccess, h]

theorem storeAccess_of_watched {v : Word} {m : Memory} (h : memWrite s vaddr w v = .ok m)
    (hw : watchHitsStore s vaddr = true) : storeAccess s vaddr w v = .refuse .watchHit := by
  simp [storeAccess, h, hw]

end

/-- Settles O33: each stop is the stop of MemRead and MemWrite under its name; the watchpoint is met once these give a value. -/
theorem accessStops : Obligations.AccessStops := by
  intro s vaddr w v
  refine ⟨fun hre => ?_, fun hre hal => ⟨fun ht => ?_, fun pa ht => ⟨fun hc => ?_, fun hc => ?_⟩⟩⟩
  · exact ⟨loadAccess_of_memRead_refuse (memRead_of_reverseEndian hre vaddr w),
      storeAccess_of_memWrite_refuse (memWrite_of_reverseEndian hre vaddr w v)⟩
  · exact ⟨loadAccess_of_memRead_refuse (memRead_of_unmapped hre hal ht),
      storeAccess_of_memWrite_refuse (memWrite_of_unmapped hre hal ht v)⟩
  · exact ⟨loadAccess_of_memRead_fault (memRead_of_noMemory hre hal ht hc),
      storeAccess_of_memWrite_fault (memWrite_of_noMemory hre hal ht hc v)⟩
  · refine ⟨fun hw => ?_, fun htext =>
      storeAccess_of_memWrite_refuse (memWrite_of_programText hre hal ht hc htext v), fun htext hw => ?_⟩
    all_goals obtain rfl := translateAddress_eq_some ht
    · exact loadAccess_of_watched ((memRead_eq_ok_iff _ _ _ _).mpr ⟨hre, hal, ht, hc, rfl⟩) hw
    · exact storeAccess_of_watched ((memWrite_eq_ok_iff _ _ _ _ _).mpr ⟨hre, hal, ht, hc, htext, rfl⟩) hw

-- A value read back after it was written (20_memory R151, R155).

/-- The n low bytes of v, written and read back, are the n low bytes of v. -/
theorem Memory.getLsbD_readBE_writeBE (m : Memory) (a n : Nat) (v : Word) (hw : m.wf) {i : Nat} (hi : i < 64) :
    ((m.writeBE a n v).readBE a n).getLsbD i = (decide (i < 8 * n) && v.getLsbD i) := by
  induction n generalizing v i with
  | zero => simp [Memory.readBE]
  | succ n ih =>
    have hupper : (m.writeBE a (n + 1) v).readBE a n = (m.writeBE a n (v >>> 8)).readBE a n :=
      Memory.readBE_congr _ _ _ _ (fun b _ hb => Memory.read_write_of_ne _ _ _ _ (by omega))
    have hlast : (m.writeBE a (n + 1) v).read (a + n) = v.setWidth 8 :=
      Memory.read_write_self _ _ _ (Memory.wf_writeBE m a n _ hw)
    rw [Memory.readBE, hupper, hlast, BitVec.getLsbD_or, BitVec.getLsbD_shiftLeft, BitVec.getLsbD_setWidth,
      BitVec.getLsbD_setWidth]
    by_cases h8 : i < 8
    · simp [h8, hi, show i < 8 * (n + 1) by omega]
    · rw [ih (v >>> 8) (by omega), BitVec.getLsbD_ushiftRight, show 8 + (i - 8) = i by omega]
      simp [h8, hi, show i - 8 < 8 * n ↔ i < 8 * (n + 1) by omega]

theorem Memory.readBE_writeBE_dword (m : Memory) (a : Nat) (v : Word) (hw : m.wf) : (m.writeBE a 8 v).readBE a 8 = v := by
  apply BitVec.eq_of_getLsbD_eq
  intro i hi
  rw [Memory.getLsbD_readBE_writeBE m a 8 v hw hi, decide_eq_true (by omega), Bool.true_and]

/-- A load that is ready completes with the bytes it reads (43_load_store R260, R261). -/
theorem load_of_ready {s : State} {w : Width} {ext : Width → Word → Word} {rt base : Reg} {offset : BitVec 16}
    (h : LoadReady s (s.effectiveAddress base offset) w) :
    load w ext rt base offset s =
      .next (s.complete rt (ext w (s.mem.readBE (physicalOf (s.effectiveAddress base offset)).toNat w.bytes))) := by
  rw [load, (loadAccess_eq_ok_iff _ _ _ _).mpr ⟨h, rfl⟩, Access.finish]

/-- A store that is ready completes with the bytes it writes (43_load_store R260, R261). -/
theorem store_of_ready {s : State} {w : Width} {rt base : Reg} {offset : BitVec 16}
    (h : StoreReady s (s.effectiveAddress base offset) w) :
    store w rt base offset s =
      .next (s.withMem (s.mem.writeBE (physicalOf (s.effectiveAddress base offset)).toNat w.bytes (s.readGpr rt))).advance := by
  rw [store, (storeAccess_eq_ok_iff _ _ _ _ _).mpr ⟨h, rfl⟩, Access.finish]

/-- Settles O34: both segments translate to the same physical address, where the doubleword written is read back. -/
theorem loadAfterStore : Obligations.LoadAfterStore := by
  intro s t rt base rt' base' offset offset' hwf hstore hexec hload hsame
  have ht : t = _ := next_inj ((store_of_ready hstore).symm.trans hexec)
  have hpa : (physicalOf (t.effectiveAddress base' offset')).toNat = (physicalOf (s.effectiveAddress base offset)).toNat := by
    rw [toNat_physicalOf, toNat_physicalOf, hsame]
  have hmem : t.mem = s.mem.writeBE (physicalOf (s.effectiveAddress base offset)).toNat 8 (s.readGpr rt) := by
    rw [ht]; rfl
  have hread : t.mem.readBE (physicalOf (t.effectiveAddress base' offset')).toNat 8 = s.readGpr rt := by
    rw [hpa, hmem, Memory.readBE_writeBE_dword _ _ _ hwf]
  rw [← hread]
  exact completesWriting_of_exec (load_of_ready hload)

-- The entry of an exception, and the misaligned fetch (20_memory R140; 60_exceptions R312).

theorem withExl_true (st : Word32) : withExl st true = st ||| 0x2 := by
  apply BitVec.eq_of_getLsbD_eq
  intro i hi
  rw [getLsbD_withExl, BitVec.getLsbD_or]
  interval_cases i <;> simp

theorem withExcCode_and_4FFFFF83 (c : Word32) (x : BitVec 5) : withExcCode c x &&& 0x4FFFFF83 = c &&& 0x4FFFFF83 :=
  insertField_and_of_disjoint _ 2 _ _ (by omega) (by decide)

theorem withCe_and_4FFFFF83 (c : Word32) (x : BitVec 2) : withCe c x &&& 0x4FFFFF83 = c &&& 0x4FFFFF83 :=
  insertField_and_of_disjoint _ 28 _ _ (by omega) (by decide)

theorem withBd_and_4FFFFF83 (c : Word32) (b : Bool) : withBd c b &&& 0x4FFFFF83 = c &&& 0x4FFFFF83 :=
  insertField_and_of_disjoint _ 31 _ _ (by omega) (by decide)

/-- An entry writes the code, ce and perhaps bd, and keeps the rest of Cause. -/
theorem takeException_cause_and_4FFFFF83 (s : State) (e : Exc) :
    (s.takeException e).cp0.cause &&& 0x4FFFFF83 = s.cp0.cause &&& 0x4FFFFF83 := by
  rw [State.takeException_cp0_cause, withCe_and_4FFFFF83, withExcCode_and_4FFFFF83]
  split
  · exact withBd_and_4FFFFF83 _ _
  · rfl

/-- EPC and Cause.bd are written only from outside the exception level (60_exceptions R312, R313). -/
theorem takeException_epc_bd (s : State) (e : Exc) :
    if statusExl s.cp0.status then
      (s.takeException e).cp0.epc = s.cp0.epc ∧ causeBd (s.takeException e).cp0.cause = causeBd s.cp0.cause
    else (s.takeException e).cp0.epc = (if s.inDelay then s.pc - 4 else s.pc) ∧
      causeBd (s.takeException e).cp0.cause = s.inDelay := by
  cases hexl : statusExl s.cp0.status <;> simp [hexl, State.resumeAddress]

/-- The model's entry is ExceptionEntry, clause by clause (60_exceptions R312 to R317). -/
theorem entersException_takeException (s : State) (e : Exc) : EntersException s (s.takeException e) e := by
  refine ⟨takeException_epc_bd s e, ?_, ?_, takeException_cause_and_4FFFFF83 s e, ?_, withExl_true _, rfl, rfl, rfl, rfl,
    s.readGpr_takeException e, rfl, ⟨rfl, rfl, rfl⟩, fun _ => rfl, rfl, rfl, rfl, rfl⟩
  · rw [State.takeException_cp0_cause, causeExcCode_withCe, causeExcCode_withExcCode]
  · cases e with
    | coprocessorUnusable unit => exact causeCe_withCe _ _
    | interrupt => trivial
    | addressErrorLoad vaddr => trivial
    | addressErrorStore vaddr => trivial
  · cases e <;> rfl

/-- A misaligned pc ends the clauses before execution in Address Error (load). -/
theorem front_of_misaligned {s : State} (hmode : effectiveMode s.cp0.status = .kernel)
    (hint : interruptTaken s.cp0.status s.cp0.cause = false) (hre : statusRe s.cp0.status = false)
    (hpc : s.pc.toNat % 4 ≠ 0) : front s = .raise (.addressErrorLoad s.pc) := by
  have hfetch : fetch s = .raise (.addressErrorLoad s.pc) := by
    rw [fetch, (memRead_eq_raise_iff s s.pc .word _).mpr ⟨hre, hpc, rfl⟩]
  rw [front, hmode, hint, hfetch]
  rfl

/-- A step whose fetch raises an exception is the entry, the update of Random and the ticks (60_exceptions R300). -/
theorem step_of_front_raise {s : State} {e : Exc} (h : front s.sampled = .raise e) :
    step s = .next ((s.sampled.takeException e).updateRandom.betweenSteps (Config.tickSchedule s.time)) := by
  have hprocess : process s.sampled = .next (s.sampled.takeException e).updateRandom := by rw [process, h]
  exact congrArg (mapNext _) hprocess

/-- Settles O32: the step is the entry that the misaligned fetch raises, on the sampled state. -/
theorem misalignedFetch : Obligations.MisalignedFetch := by
  intro s hmode hint hre hpc
  exact ⟨_, entersException_takeException s.sampled _,
    step_of_front_raise (front_of_misaligned (s := s.sampled) hmode hint hre hpc)⟩

end Sys2Proof.Machine
end

section
/-! PROOFS. The family 30_encoding: one row at most is selected by a word, a word is put together again from its fields, and so
decode and encode are inverse to each other. First the rules of the opcode table, then those of each format of the encoder, then
the statements from these rules. -/

namespace Sys2Proof

-- The opcode table (30_encoding R177).

/-- The two rows fix a common bit of the word differently. -/
def Row.Disagree (r r' : Row) : Prop := r.pattern &&& r'.mask ≠ r'.pattern &&& r.mask

theorem Row.not_disagree_of_selects {r r' : Row} {w : Word32} (h : w &&& r.mask = r.pattern) (h' : w &&& r'.mask = r'.pattern) :
    ¬ r.Disagree r' := by
  rw [Row.Disagree, ← h, ← h', BitVec.and_assoc, BitVec.and_assoc, BitVec.and_comm r.mask, not_not]

theorem opcodeRows_pairwise_disagree : opcodeRows.Pairwise Row.Disagree := by
  unfold Row.Disagree
  decide

/-- A word selects at most one row. -/
theorem Row.eq_of_selects {r r' : Row} {w : Word32} (hr : r ∈ opcodeRows) (hr' : r' ∈ opcodeRows)
    (h : w &&& r.mask = r.pattern) (h' : w &&& r'.mask = r'.pattern) : r = r' := by
  have hsymm : Std.Symm Row.Disagree := ⟨fun _ _ hne => hne.symm⟩
  by_contra hne
  exact Row.not_disagree_of_selects h h' (opcodeRows_pairwise_disagree.forall hr hr' hne)

theorem Row.selects_iff (r : Row) (w : Word32) : r.selects w = true ↔ w &&& r.mask = r.pattern := beq_iff_eq

-- The decoder: what it answers on a word that selects a row and on a word that selects none.

theorem decode_of_selects {r : Row} {w : Word32} (hr : r ∈ opcodeRows) (h : w &&& r.mask = r.pattern) :
    decode w = .ok (r.build w) := by
  cases hf : opcodeRows.find? (fun r => r.selects w) with
  | none => exact absurd ((r.selects_iff w).mpr h) (List.find?_eq_none.mp hf r hr)
  | some r' =>
    have hsel : r'.selects w = true := List.find?_some (p := fun r : Row => r.selects w) hf
    have hrow : r' = r := Row.eq_of_selects (List.mem_of_find?_eq_some hf) hr ((r'.selects_iff w).mp hsel) h
    rw [decode, hf, hrow]

theorem decode_of_no_row {w : Word32} (h : ∀ r ∈ opcodeRows, w &&& r.mask ≠ r.pattern) :
    decode w = .error (.unmodelledEncoding w) := by
  have hf : opcodeRows.find? (fun r => r.selects w) = none :=
    List.find?_eq_none.mpr fun r hr hs => h r hr ((r.selects_iff w).mp hs)
  rw [decode, hf]

/-- A word that decodes selects a row that builds the instruction. -/
theorem exists_row_of_decode {w : Word32} {i : Instr} (h : decode w = .ok i) :
    ∃ r ∈ opcodeRows, w &&& r.mask = r.pattern ∧ r.build w = i := by
  by_cases hs : ∃ r ∈ opcodeRows, w &&& r.mask = r.pattern
  · obtain ⟨r, hr, hw⟩ := hs
    rw [decode_of_selects hr hw] at h
    injection h with h
    exact ⟨r, hr, hw, h⟩
  · rw [decode_of_no_row fun r hr hw => hs ⟨r, hr, hw⟩] at h
    exact nomatch h

/-- Settles O3: the rows a word selects are one row, and it is the decoder's. -/
theorem eachWordSelectsOneRow : Obligations.EachWordSelectsOneRow := fun _ =>
  ⟨fun _ hr h => ⟨decode_of_selects hr h, fun _ hr' h' => congrArg Row.mnemonic (Row.eq_of_selects hr' hr h' h)⟩,
    decode_of_no_row⟩

/-- Settles O4: a finite comparison of two tables. -/
theorem opcodeColumns : Obligations.OpcodeColumns := by
  unfold Obligations.OpcodeColumns
  decide

-- Decoding what a format encodes: the row is looked up by its mnemonic, the format's words select it, and their fields are the
-- operands.

/-- The row with this mnemonic. -/
def rowNamed (name : String) : Option Row := opcodeRows.find? (fun r => r.mnemonic == name)

theorem decode_of_rowNamed (name : String) {r : Row} {w : Word32} (hr : rowNamed name = some r) (h : w &&& r.mask = r.pattern) :
    decode w = .ok (r.build w) :=
  decode_of_selects (List.mem_of_find?_eq_some hr) h

section

variable (name : String)

theorem decode_encodeI {op : BitVec 6} {f : Reg → Reg → BitVec 16 → Instr}
    (hr : rowNamed name = some ⟨name, op ++ 0#26, 0xFC000000, fun w => f (fieldRt w) (fieldRs w) (fieldImm w)⟩)
    (rt rs : Reg) (imm : BitVec 16) : decode (encodeI op rs rt imm) = .ok (f rt rs imm) := by
  simpa using decode_of_rowNamed name hr (encodeI_and_FC000000 op rs rt imm)

/-- The branches name rs first. -/
theorem decode_encodeI_branch {op : BitVec 6} {f : Reg → Reg → BitVec 16 → Instr}
    (hr : rowNamed name = some ⟨name, op ++ 0#26, 0xFC000000, fun w => f (fieldRs w) (fieldRt w) (fieldImm w)⟩)
    (rs rt : Reg) (imm : BitVec 16) : decode (encodeI op rs rt imm) = .ok (f rs rt imm) :=
  decode_encodeI name (f := fun rt rs => f rs rt) hr rt rs imm

theorem decode_encodeI_regimm {op : BitVec 6} {rt : Reg} {f : Reg → BitVec 16 → Instr}
    (hr : rowNamed name = some ⟨name, op ++ 0#5 ++ rt ++ 0#16, 0xFC1F0000, fun w => f (fieldRs w) (fieldImm w)⟩)
    (rs : Reg) (imm : BitVec 16) : decode (encodeI op rs rt imm) = .ok (f rs imm) := by
  simpa using decode_of_rowNamed name hr (encodeI_and_FC1F0000 op rs rt imm)

theorem decode_encodeJ {op : BitVec 6} {f : BitVec 26 → Instr}
    (hr : rowNamed name = some ⟨name, op ++ 0#26, 0xFC000000, fun w => f (fieldTarget w)⟩)
    (target : BitVec 26) : decode (encodeJ op target) = .ok (f target) := by
  simpa using decode_of_rowNamed name hr (encodeJ_and_FC000000 op target)

theorem decode_encodeR {funct : BitVec 6} {f : Reg → Reg → Reg → Instr}
    (hr : rowNamed name = some
      ⟨name, 0#6 ++ 0#15 ++ 0#5 ++ funct, 0xFC0007FF, fun w => f (fieldRd w) (fieldRs w) (fieldRt w)⟩)
    (rd rs rt : Reg) : decode (encodeR rs rt rd 0 funct) = .ok (f rd rs rt) := by
  simpa using decode_of_rowNamed name hr (encodeR_and_FC0007FF rs rt rd 0 funct)

theorem decode_encodeCp0Move {sub : BitVec 5} {f : Reg → Reg → Instr}
    (hr : rowNamed name = some ⟨name, 0x10#6 ++ sub ++ 0#21, 0xFFE007FF, fun w => f (fieldRt w) (fieldRd w)⟩)
    (rt rd : Reg) : decode (encodeCp0Move sub rt rd) = .ok (f rt rd) := by
  simpa using decode_of_rowNamed name hr (encodeCp0Move_and_FFE007FF sub rt rd)

end

theorem decode_encode_jr (rs : Reg) : decode (encode (.jr rs)) = .ok (.jr rs) := by
  simpa [encode] using decode_of_rowNamed "JR" rfl (encodeR_and_FC1FFFFF rs 0 0 0 0x08)

theorem decode_encode_jalr (rd rs : Reg) : decode (encode (.jalr rd rs)) = .ok (.jalr rd rs) := by
  simpa [encode] using decode_of_rowNamed "JALR" rfl (encodeR_and_FC1F07FF rs 0 rd 0 0x09)

theorem decode_encode_sll (rd rt : Reg) (sa : BitVec 5) : decode (encode (.sll rd rt sa)) = .ok (.sll rd rt sa) := by
  simpa [encode] using decode_of_rowNamed "SLL" rfl (encodeR_and_FFE0003F 0 rt rd sa 0x00)

theorem decode_encode_lui (rt : Reg) (imm : BitVec 16) : decode (encode (.lui rt imm)) = .ok (.lui rt imm) := by
  simpa [encode] using decode_of_rowNamed "LUI" rfl (encodeI_and_FFE00000 0x0F 0 rt imm)

/-- Settles O1: the format of each instruction, with the instruction's row. -/
theorem decodeEncode : Obligations.DecodeEncode := by
  intro i
  cases i with
  | mfc0 rt rd => exact decode_encodeCp0Move "MFC0" rfl rt rd
  | dmfc0 rt rd => exact decode_encodeCp0Move "DMFC0" rfl rt rd
  | mtc0 rt rd => exact decode_encodeCp0Move "MTC0" rfl rt rd
  | dmtc0 rt rd => exact decode_encodeCp0Move "DMTC0" rfl rt rd
  | tlbwr => exact decode_of_rowNamed "TLBWR" rfl rfl
  | eret => exact decode_of_rowNamed "ERET" rfl rfl
  | j target => exact decode_encodeJ "J" rfl target
  | jal target => exact decode_encodeJ "JAL" rfl target
  | jr rs => exact decode_encode_jr rs
  | jalr rd rs => exact decode_encode_jalr rd rs
  | beq rs rt imm => exact decode_encodeI_branch "BEQ" rfl rs rt imm
  | bne rs rt imm => exact decode_encodeI_branch "BNE" rfl rs rt imm
  | bltzal rs imm => exact decode_encodeI_regimm "BLTZAL" rfl rs imm
  | bgezal rs imm => exact decode_encodeI_regimm "BGEZAL" rfl rs imm
  | bltzall rs imm => exact decode_encodeI_regimm "BLTZALL" rfl rs imm
  | bgezall rs imm => exact decode_encodeI_regimm "BGEZALL" rfl rs imm
  | sll rd rt sa => exact decode_encode_sll rd rt sa
  | addu rd rs rt => exact decode_encodeR "ADDU" rfl rd rs rt
  | daddu rd rs rt => exact decode_encodeR "DADDU" rfl rd rs rt
  | and rd rs rt => exact decode_encodeR "AND" rfl rd rs rt
  | or rd rs rt => exact decode_encodeR "OR" rfl rd rs rt
  | addiu rt rs imm => exact decode_encodeI "ADDIU" rfl rt rs imm
  | daddiu rt rs imm => exact decode_encodeI "DADDIU" rfl rt rs imm
  | andi rt rs imm => exact decode_encodeI "ANDI" rfl rt rs imm
  | ori rt rs imm => exact decode_encodeI "ORI" rfl rt rs imm
  | lui rt imm => exact decode_encode_lui rt imm
  | lb rt base offset => exact decode_encodeI "LB" rfl rt base offset
  | lbu rt base offset => exact decode_encodeI "LBU" rfl rt base offset
  | lh rt base offset => exact decode_encodeI "LH" rfl rt base offset
  | lhu rt base offset => exact decode_encodeI "LHU" rfl rt base offset
  | lw rt base offset => exact decode_encodeI "LW" rfl rt base offset
  | lwu rt base offset => exact decode_encodeI "LWU" rfl rt base offset
  | ld rt base offset => exact decode_encodeI "LD" rfl rt base offset
  | sb rt base offset => exact decode_encodeI "SB" rfl rt base offset
  | sh rt base offset => exact decode_encodeI "SH" rfl rt base offset
  | sw rt base offset => exact decode_encodeI "SW" rfl rt base offset
  | sd rt base offset => exact decode_encodeI "SD" rfl rt base offset
  | cop1 cofun => exact decode_encodeJ "COP1" rfl cofun
  | lwc1 ft base offset => exact decode_encodeI "LWC1" rfl ft base offset
  | ldc1 ft base offset => exact decode_encodeI "LDC1" rfl ft base offset
  | swc1 ft base offset => exact decode_encodeI "SWC1" rfl ft base offset
  | sdc1 ft base offset => exact decode_encodeI "SDC1" rfl ft base offset

-- A word put together again from its fields (30_encoding R171 to R173).

/-- Two neighbouring fields are one field. -/
theorem append_extract {n : Nat} (x : BitVec n) (lo len₁ len₂ : Nat) :
    x.extractLsb' (lo + len₁) len₂ ++ x.extractLsb' lo len₁ = x.extractLsb' lo (len₂ + len₁) :=
  BitVec.extractLsb'_append_extractLsb'_eq_extractLsb' rfl

section

variable {w p : Word32}

theorem encodeJ_of_fields {op : BitVec 6} (hop : w.extractLsb' 26 6 = op) : encodeJ op (fieldTarget w) = w := by
  rw [← hop]
  exact (append_extract w 0 26 6).trans BitVec.extractLsb'_eq_self

theorem encodeI_of_fields {op : BitVec 6} {rs rt : Reg} (hop : w.extractLsb' 26 6 = op) (hrs : fieldRs w = rs)
    (hrt : fieldRt w = rt) : encodeI op rs rt (fieldImm w) = w := by
  rw [encodeI, ← hop, ← hrs, ← hrt, fieldRs, append_extract w 21 5 6, fieldRt, append_extract w 16 5 11]
  exact (append_extract w 0 16 16).trans BitVec.extractLsb'_eq_self

theorem encodeR_of_fields {rs rt rd : Reg} {sa : BitVec 5} {funct : BitVec 6} (hop : w.extractLsb' 26 6 = 0#6)
    (hrs : fieldRs w = rs) (hrt : fieldRt w = rt) (hrd : fieldRd w = rd) (hsa : fieldSa w = sa)
    (hfunct : w.extractLsb' 0 6 = funct) : encodeR rs rt rd sa funct = w := by
  rw [encodeR, ← hop, ← hrs, ← hrt, ← hrd, ← hsa, ← hfunct, fieldRs, append_extract w 21 5 6, fieldRt, append_extract w 16 5 11,
    fieldRd, append_extract w 11 5 16, fieldSa, append_extract w 6 5 21]
  exact (append_extract w 0 6 26).trans BitVec.extractLsb'_eq_self

theorem encodeCp0Move_of_fields {sub : BitVec 5} (hop : w.extractLsb' 26 6 = 0x10#6) (hsub : w.extractLsb' 21 5 = sub)
    (hlow : w.extractLsb' 0 11 = 0#11) : encodeCp0Move sub (fieldRt w) (fieldRd w) = w := by
  rw [encodeCp0Move, ← hop, ← hsub, ← hlow, append_extract w 21 5 6, fieldRt, append_extract w 16 5 11, fieldRd,
    append_extract w 11 5 16]
  exact (append_extract w 0 11 21).trans BitVec.extractLsb'_eq_self

-- Every row is faithful: the fields its mask covers the encoder writes again, and its operands hold the others.

/-- Encoding what the row builds gives back every word that selects the row. -/
def Row.Faithful (r : Row) : Prop := ∀ w, w &&& r.mask = r.pattern → encode (r.build w) = w

/-- A field that the mask covers is the pattern's. -/
theorem extract_of_and_eq {m : Word32} (lo len : Nat) (h : w &&& m = p) (hm : m.extractLsb' lo len = BitVec.allOnes len) :
    w.extractLsb' lo len = p.extractLsb' lo len := by
  rw [← h, BitVec.extractLsb'_and, hm, BitVec.and_allOnes]

theorem encodeI_of_and {op : BitVec 6} (h : w &&& 0xFC000000 = p) (hop : p.extractLsb' 26 6 = op) :
    encodeI op (fieldRs w) (fieldRt w) (fieldImm w) = w :=
  encodeI_of_fields ((extract_of_and_eq 26 6 h rfl).trans hop) rfl rfl

theorem encodeI_regimm_of_and {op : BitVec 6} {rt : Reg} (h : w &&& 0xFC1F0000 = p) (hop : p.extractLsb' 26 6 = op)
    (hrt : fieldRt p = rt) : encodeI op (fieldRs w) rt (fieldImm w) = w :=
  encodeI_of_fields ((extract_of_and_eq 26 6 h rfl).trans hop) rfl ((extract_of_and_eq 16 5 h rfl).trans hrt)

theorem encodeJ_of_and {op : BitVec 6} (h : w &&& 0xFC000000 = p) (hop : p.extractLsb' 26 6 = op) :
    encodeJ op (fieldTarget w) = w :=
  encodeJ_of_fields ((extract_of_and_eq 26 6 h rfl).trans hop)

theorem encodeR_of_and {funct : BitVec 6} (h : w &&& 0xFC0007FF = p) (hop : p.extractLsb' 26 6 = 0#6) (hsa : fieldSa p = 0)
    (hfunct : p.extractLsb' 0 6 = funct) : encodeR (fieldRs w) (fieldRt w) (fieldRd w) 0 funct = w :=
  encodeR_of_fields ((extract_of_and_eq 26 6 h rfl).trans hop) rfl rfl rfl ((extract_of_and_eq 6 5 h rfl).trans hsa)
    ((extract_of_and_eq 0 6 h rfl).trans hfunct)

theorem encodeCp0Move_of_and {sub : BitVec 5} (h : w &&& 0xFFE007FF = p) (hop : p.extractLsb' 26 6 = 0x10#6)
    (hsub : p.extractLsb' 21 5 = sub) (hlow : p.extractLsb' 0 11 = 0#11) :
    encodeCp0Move sub (fieldRt w) (fieldRd w) = w :=
  encodeCp0Move_of_fields ((extract_of_and_eq 26 6 h rfl).trans hop) ((extract_of_and_eq 21 5 h rfl).trans hsub)
    ((extract_of_and_eq 0 11 h rfl).trans hlow)

/-- A mask of all ones leaves the pattern alone. -/
theorem eq_of_and_allOnes (h : w &&& 0xFFFFFFFF = p) : p = w := h.symm.trans BitVec.and_allOnes

end

theorem cp0Rows_faithful : ∀ r ∈ cp0Rows, r.Faithful := by
  simp only [cp0Rows, List.forall_mem_cons]
  exact ⟨fun _ h => encodeCp0Move_of_and h rfl rfl rfl, fun _ h => encodeCp0Move_of_and h rfl rfl rfl,
    fun _ h => encodeCp0Move_of_and h rfl rfl rfl, fun _ h => encodeCp0Move_of_and h rfl rfl rfl,
    fun _ h => eq_of_and_allOnes h, fun _ h => eq_of_and_allOnes h,
    nofun⟩

theorem controlRows_faithful : ∀ r ∈ controlRows, r.Faithful := by
  simp only [controlRows, List.forall_mem_cons]
  exact ⟨fun _ h => encodeJ_of_and h rfl, fun _ h => encodeJ_of_and h rfl,
    fun _ h => encodeR_of_fields (extract_of_and_eq 26 6 h rfl) rfl (extract_of_and_eq 16 5 h rfl) (extract_of_and_eq 11 5 h rfl)
      (extract_of_and_eq 6 5 h rfl) (extract_of_and_eq 0 6 h rfl),
    fun _ h => encodeR_of_fields (extract_of_and_eq 26 6 h rfl) rfl (extract_of_and_eq 16 5 h rfl) rfl
      (extract_of_and_eq 6 5 h rfl) (extract_of_and_eq 0 6 h rfl),
    fun _ h => encodeI_of_and h rfl, fun _ h => encodeI_of_and h rfl,
    fun _ h => encodeI_regimm_of_and h rfl rfl, fun _ h => encodeI_regimm_of_and h rfl rfl,
    fun _ h => encodeI_regimm_of_and h rfl rfl, fun _ h => encodeI_regimm_of_and h rfl rfl,
    nofun⟩

theorem integerRows_faithful : ∀ r ∈ integerRows, r.Faithful := by
  simp only [integerRows, List.forall_mem_cons]
  exact ⟨fun _ h => encodeR_of_fields (extract_of_and_eq 26 6 h rfl) (extract_of_and_eq 21 5 h rfl) rfl rfl rfl
      (extract_of_and_eq 0 6 h rfl),
    fun _ h => encodeR_of_and h rfl rfl rfl, fun _ h => encodeR_of_and h rfl rfl rfl,
    fun _ h => encodeR_of_and h rfl rfl rfl, fun _ h => encodeR_of_and h rfl rfl rfl,
    fun _ h => encodeI_of_and h rfl, fun _ h => encodeI_of_and h rfl,
    fun _ h => encodeI_of_and h rfl, fun _ h => encodeI_of_and h rfl,
    fun _ h => encodeI_of_fields (extract_of_and_eq 26 6 h rfl) (extract_of_and_eq 21 5 h rfl) rfl,
    nofun⟩

theorem loadRows_faithful : ∀ r ∈ loadRows, r.Faithful := by
  simp only [loadRows, List.forall_mem_cons]
  exact ⟨fun _ h => encodeI_of_and h rfl, fun _ h => encodeI_of_and h rfl,
    fun _ h => encodeI_of_and h rfl, fun _ h => encodeI_of_and h rfl,
    fun _ h => encodeI_of_and h rfl, fun _ h => encodeI_of_and h rfl,
    fun _ h => encodeI_of_and h rfl,
    nofun⟩

theorem storeRows_faithful : ∀ r ∈ storeRows, r.Faithful := by
  simp only [storeRows, List.forall_mem_cons]
  exact ⟨fun _ h => encodeI_of_and h rfl, fun _ h => encodeI_of_and h rfl,
    fun _ h => encodeI_of_and h rfl, fun _ h => encodeI_of_and h rfl,
    nofun⟩

theorem cp1Rows_faithful : ∀ r ∈ cp1Rows, r.Faithful := by
  simp only [cp1Rows, List.forall_mem_cons]
  exact ⟨fun _ h => encodeJ_of_and h rfl,
    fun _ h => encodeI_of_and h rfl, fun _ h => encodeI_of_and h rfl,
    fun _ h => encodeI_of_and h rfl, fun _ h => encodeI_of_and h rfl,
    nofun⟩

theorem opcodeRows_faithful : ∀ r ∈ opcodeRows, r.Faithful := by
  simp only [opcodeRows, List.forall_mem_append]
  exact ⟨⟨⟨⟨⟨cp0Rows_faithful, controlRows_faithful⟩, integerRows_faithful⟩, loadRows_faithful⟩, storeRows_faithful⟩,
    cp1Rows_faithful⟩

/-- Settles O2: the row that decoded the word is faithful. -/
theorem encodeDecode : Obligations.EncodeDecode := by
  intro w i h
  obtain ⟨r, hr, hw, rfl⟩ := exists_row_of_decode h
  exact opcodeRows_faithful r hr w hw

end Sys2Proof

namespace Sys2Proof.Machine

-- The step on a word that is no instruction (60_exceptions R300).

/-- Sampling the external lines does not reach the fetch. -/
theorem fetch_sampled (s : State) : fetch s.sampled = fetch s := rfl

/-- A fetched word that does not decode ends the clauses before execution in a refusal. -/
theorem front_of_decode_error {s : State} {w : Word32} {e : Reject} (hmode : effectiveMode s.cp0.status = .kernel)
    (hint : interruptTaken s.cp0.status s.cp0.cause = false) (hfetch : fetch s = .ok w) (hd : decode w = .error e) :
    front s = .refuse .unmodelledEncoding := by
  rw [front, hmode, hint, hfetch]
  dsimp only
  rw [hd]
  rfl

/-- A refusal before execution is the step's. -/
theorem step_of_front_refuse {s : State} {r : Refusal} (h : front s.sampled = .refuse r) : step s = .refused r := by
  have hprocess : process s.sampled = .refused r := by rw [process, h]
  exact congrArg (mapNext _) hprocess

/-- Settles O7: such a word does not decode. -/
theorem unmodelledWordRefused : Obligations.UnmodelledWordRefused := by
  intro s w hmode hint hfetch hno
  exact step_of_front_refuse
    (front_of_decode_error (s := s.sampled) hmode hint ((fetch_sampled s).trans hfetch) (decode_of_no_row hno))

end Sys2Proof.Machine
end

section
/-! PROOFS. The family 40_cp0_instructions: sample words of every family decode, the moves from and to CP0 complete for every
number, and ERET returns from either level, after an entry to where the entry came from. First the rules of count_half, exl and
erl, then those of ERET, then the statements from these rules. -/

namespace Sys2Proof.Machine

/-- Settles O5: each word is the encoding of its instruction. -/
theorem sampleWordsDecode : Obligations.SampleWordsDecode :=
  ⟨decodeEncode (.mtc0 8 12), decodeEncode .tlbwr, decodeEncode .eret, decodeEncode (.jal 0x110), decodeEncode (.jalr 31 25),
    decodeEncode (.bne 8 0 0xFFFE), decodeEncode (.bltzall 8 4), decodeEncode (.sll 9 8 4), decodeEncode (.addu 10 8 9),
    decodeEncode (.lui 8 0x8000), decodeEncode (.lw 9 8 4), decodeEncode (.sd 9 8 0), decodeEncode (.cop1 0x880000),
    decodeEncode (.lwc1 2 8 4)⟩

-- The moves between a general register and CP0 (40_cp0_instructions R201 to R204).

/-- What a 32-bit move transfers is the low half of what a 64-bit move does (10_state R31). -/
theorem cp0ReadLow_eq (s : State) (n : Reg) : cp0ReadLow s n = (cp0Read s n).setWidth 32 := by
  cases hv : cp0Value s n with
  | narrow v => rw [cp0Read_low_of_narrow hv, cp0ReadLow, hv]
  | wide v =>
    rw [cp0Read_of_wide hv, cp0ReadLow, hv]
    rfl

theorem exec_mfc0 (rt rd : Reg) (s : State) :
    exec (.mfc0 rt rd) s = .next (s.complete rt (((cp0Read s rd).setWidth 32).signExtend 64)) := by
  rw [← cp0ReadLow_eq]
  rfl

/-- Settles O35: both complete with what CP0Read gives. -/
theorem movesFromCp0 : Obligations.MovesFromCp0 := fun rt rd s =>
  ⟨decodeEncode (.mfc0 rt rd), decodeEncode (.dmfc0 rt rd), completesWriting_of_exec (exec_mfc0 rt rd s),
    completesWriting_of_exec rfl⟩

theorem cp0Reg_eq_count_iff : ∀ n : Reg, cp0Reg n = .count ↔ n = 9 := by decide

/-- Count is number 9, the one number whose write clears count_half (10_state R51). -/
theorem countHalfAfterWrite_eq (n : Reg) (half : Bool) : countHalfAfterWrite n half = if n = 9 then false else half := by
  unfold countHalfAfterWrite
  split
  · next hcount => rw [if_pos ((cp0Reg_eq_count_iff n).mp hcount)]
  · next hother => rw [if_neg fun hn => hother ((cp0Reg_eq_count_iff n).mpr hn)]

/-- Settles O38: both complete, and their effect is CP0Write. -/
theorem movesToCp0 : Obligations.MovesToCp0 := by
  intro rt rd s
  rw [← countHalfAfterWrite_eq]
  exact ⟨decodeEncode (.mtc0 rt rd), decodeEncode (.dmtc0 rt rd),
    ⟨_, rfl, ⟨rfl, rfl, rfl⟩, onlyWritesCp0_cp0Write s rd _⟩, ⟨_, rfl, ⟨rfl, rfl, rfl⟩, onlyWritesCp0_cp0Write s rd _⟩⟩

-- exl and erl of Status, written and written back (10_state R58, R59).

theorem withExl_false (st : Word32) : withExl st false = st &&& ~~~(0x2#32) := by
  apply BitVec.eq_of_getLsbD_eq
  intro i hi
  rw [getLsbD_withExl, BitVec.getLsbD_and]
  interval_cases i <;> simp

theorem withErl_false (st : Word32) : withErl st false = st &&& ~~~(0x4#32) := by
  apply BitVec.eq_of_getLsbD_eq
  intro i hi
  rw [getLsbD_withErl, BitVec.getLsbD_and]
  interval_cases i <;> simp

/-- Only the last write of exl counts. -/
theorem withExl_withExl (st : Word32) (b b' : Bool) : withExl (withExl st b) b' = withExl st b' := by
  apply BitVec.eq_of_getLsbD_eq
  intro i _
  simp only [getLsbD_withExl]
  split <;> rfl

/-- Writing exl with the value it has changes nothing. -/
theorem withExl_of_statusExl_eq {st : Word32} {b : Bool} (h : statusExl st = b) : withExl st b = st := by
  apply BitVec.eq_of_getLsbD_eq
  intro i _
  rw [getLsbD_withExl]
  split
  · next hi => rw [hi, ← h, statusExl]
  · rfl

-- ERET (40_cp0_instructions R206).

/-- Control went to `pc` outside a delay slot, Status became `st` and the load-linked bit was cleared (10_state R100); nothing else
changed. -/
def ReturnsTo (s t : State) (pc : Word) (st : Word32) : Prop :=
  t.pc = pc ∧ t.npc = pc + 4 ∧ t.inDelay = false ∧ t.cp0 = { s.cp0 with status := st } ∧ t.llBit = false ∧
    t.countHalf = s.countHalf ∧ t.fpr = s.fpr ∧ t.tlb = s.tlb ∧ SameGprs s t ∧ SameMemory s t ∧ SameLaunch s t

theorem exec_eret {s : State} (hd : s.inDelay = false) : exec .eret s = .next s.returnFromException :=
  if_neg (by simp [hd])

theorem returnsTo_errorEPC {s : State} (herl : statusErl s.cp0.status = true) :
    ReturnsTo s s.returnFromException s.cp0.errorEPC (withErl s.cp0.status false) := by
  rw [State.returnFromException, if_pos herl]
  exact ⟨rfl, rfl, rfl, rfl, rfl, rfl, rfl, rfl, fun _ => rfl, fun _ => rfl, rfl, rfl, rfl, rfl⟩

theorem returnsTo_epc {s : State} (herl : statusErl s.cp0.status = false) :
    ReturnsTo s s.returnFromException s.cp0.epc (withExl s.cp0.status false) := by
  rw [State.returnFromException, if_neg (by simp [herl])]
  exact ⟨rfl, rfl, rfl, rfl, rfl, rfl, rfl, rfl, fun _ => rfl, fun _ => rfl, rfl, rfl, rfl, rfl⟩

/-- Settles O13: the two returns, with the write of erl or exl as a mask. -/
theorem eret : Obligations.Eret :=
  ⟨decodeEncode .eret, fun s hd =>
    ⟨fun herl => ⟨_, exec_eret hd, withErl_false s.cp0.status ▸ returnsTo_errorEPC herl⟩,
      fun herl => ⟨_, exec_eret hd, withExl_false s.cp0.status ▸ returnsTo_epc herl⟩⟩⟩

/-- Settles O12: the entry put the resume address in EPC and set exl, which was 0; ERET goes there and clears it again. -/
theorem returnUndoesEntry : Obligations.ReturnUndoesEntry := by
  intro s e hexl herl
  have hepc := takeException_epc_bd s e
  rw [hexl, if_neg Bool.false_ne_true] at hepc
  obtain ⟨hepc, -⟩ := hepc
  have herl' : statusErl (s.takeException e).cp0.status = false := by simp [herl]
  obtain ⟨hpc, hnpc, hdelay, hcp0, -, -, -, htlb, hgprs, hmem, -⟩ := returnsTo_epc herl'
  refine ⟨_, exec_eret rfl, hpc.trans hepc, by rw [hnpc, hpc], hdelay, ?_, hgprs, hmem, htlb⟩
  calc (s.takeException e).returnFromException.cp0.status
    _ = withExl (withExl s.cp0.status true) false := congrArg Cp0.status hcp0
    _ = withExl s.cp0.status false := withExl_withExl _ _ _
    _ = s.cp0.status := withExl_of_statusExl_eq hexl

end Sys2Proof.Machine
end

section
/-! PROOFS. The family 41_control_transfer: every control transfer completes outside a delay slot and is refused in one. First where
control goes and what the link leaves unchanged, one rule for each operation, then the statements from these rules. -/

namespace Sys2Proof.Machine

-- Where control goes (41_control_transfer R220 items 1 and 3).

section

variable {s u : State}

theorem branchesTo_branchTo (hu : u.npc = s.npc) (target : Word) : BranchesTo s (u.branchTo target) target := ⟨hu, rfl, rfl⟩

theorem skipsSlot_skipSlot (hu : u.npc = s.npc) : SkipsSlot s u.skipSlot :=
  ⟨congrArg (· + 4) hu, congrArg (· + 8) hu, rfl⟩

variable {c : Bool} {p : Prop} [Decidable p]

/-- The slot executes either way. -/
theorem branchesTo_branchIf (hu : u.npc = s.npc) (hc : c = true ↔ p) (target : Word) :
    BranchesTo s (u.branchIf c target) (if p then target else s.npc + 4) := by
  simp only [State.branchIf, hc, hu]
  exact branchesTo_branchTo hu _

/-- A branch-likely executes the slot only if it is taken. -/
theorem branchLikelyIf_cases (hu : u.npc = s.npc) (hc : c = true ↔ p) (target : Word) :
    if p then BranchesTo s (u.branchLikelyIf c target) target else SkipsSlot s (u.branchLikelyIf c target) := by
  unfold State.branchLikelyIf
  split
  · next hp =>
    rw [if_pos (hc.mpr hp)]
    exact branchesTo_branchTo hu target
  · next hp =>
    rw [if_neg (fun h => hp (hc.mp h))]
    exact skipsSlot_skipSlot hu

end

-- What a control transfer leaves unchanged (41_control_transfer R220 item 4).

theorem onlyMovesPc_branchTo (s : State) (target : Word) : OnlyMovesPc s (s.branchTo target) :=
  ⟨fun _ => rfl, ⟨rfl, rfl, rfl, rfl, rfl⟩, fun _ => rfl, rfl, rfl, rfl, rfl⟩

/-- A register is written; where control then goes is not part of the frame. -/
theorem onlyWritesGpr_branchTo (s : State) (r : Reg) (v target : Word) : OnlyWritesGpr s ((s.writeGpr r v).branchTo target) r v :=
  onlyWritesGpr_complete s r v

theorem onlyWritesGpr_link_branchLikelyIf (s : State) (c : Bool) (target : Word) :
    OnlyWritesGpr s (s.link.branchLikelyIf c target) 31 (s.pc + 8) := by
  cases c <;> exact onlyWritesGpr_complete s 31 (s.pc + 8)

theorem link_npc (s : State) : s.link.npc = s.npc := s.writeGpr_npc 31 _

-- The signed test of the REGIMM branches (41_control_transfer R228 to R231).

/-- Bit 63 is the sign. -/
theorem isNegative_iff (v : Word) : isNegative v = true ↔ v.toInt < 0 := by
  have hsign : isNegative v = v.msb := (BitVec.msb_eq_getLsbD_last v).symm
  rw [hsign, BitVec.msb_eq_toInt, decide_eq_true_iff]

theorem not_isNegative_iff (v : Word) : (!isNegative v) = true ↔ 0 ≤ v.toInt := by
  rw [Bool.not_eq_true', ← Bool.not_eq_true, isNegative_iff, Int.not_lt]

-- The statements.

/-- In a delay slot a control transfer is refused (41_control_transfer R221). -/
theorem transfer_of_inDelay (s t : State) (h : s.inDelay = true) : transfer s t = .refused .controlTransferInDelaySlot := if_pos h

/-- Settles O14: the ten control transfers test the mark in `transfer`, ERET tests it itself. -/
theorem controlTransferInSlotRefused : Obligations.ControlTransferInSlotRefused := by
  intro i s hi hd
  cases i with
  | eret => exact if_pos hd
  | j | jal | jr | jalr | beq | bne | bltzal | bgezal | bltzall | bgezall => exact transfer_of_inDelay s _ hd
  | _ => exact nomatch hi

/-- Settles O15: jumps to the same target, one without and one with a link. -/
theorem jumps : Obligations.Jumps := fun target s hd =>
  ⟨decodeEncode (.j target), decodeEncode (.jal target),
    ⟨_, transfer_of_not_inDelay s _ hd, branchesTo_branchTo rfl _, onlyMovesPc_branchTo s _⟩,
    ⟨_, transfer_of_not_inDelay s _ hd, branchesTo_branchTo (link_npc s) _, onlyWritesGpr_branchTo s 31 _ _⟩⟩

/-- Settles O16: both go to the value x[rs] has before JALR writes rd. -/
theorem jumpRegisters : Obligations.JumpRegisters := fun rd rs s hd =>
  ⟨decodeEncode (.jr rs), decodeEncode (.jalr rd rs),
    ⟨_, transfer_of_not_inDelay s _ hd, branchesTo_branchTo rfl _, onlyMovesPc_branchTo s _⟩,
    ⟨_, transfer_of_not_inDelay s _ hd, branchesTo_branchTo (s.writeGpr_npc rd _) _, onlyWritesGpr_branchTo s rd _ _⟩⟩

/-- Settles O17: the tests of BEQ and BNE are equality and inequality of the whole words. -/
theorem branches : Obligations.Branches := fun rs rt imm s hd =>
  ⟨decodeEncode (.beq rs rt imm), decodeEncode (.bne rs rt imm),
    ⟨_, transfer_of_not_inDelay s _ hd, onlyMovesPc_branchTo s _, branchesTo_branchIf rfl beq_iff_eq _⟩,
    ⟨_, transfer_of_not_inDelay s _ hd, onlyMovesPc_branchTo s _, branchesTo_branchIf rfl bne_iff_ne _⟩⟩

/-- Settles O18: the link is written before the branch, the sign tested on the old x[rs]. -/
theorem linkBranches : Obligations.LinkBranches := fun rs imm s hd =>
  ⟨decodeEncode (.bltzal rs imm), decodeEncode (.bgezal rs imm),
    ⟨_, transfer_of_not_inDelay s _ hd, onlyWritesGpr_branchTo s 31 _ _,
      branchesTo_branchIf (link_npc s) (isNegative_iff _) _⟩,
    ⟨_, transfer_of_not_inDelay s _ hd, onlyWritesGpr_branchTo s 31 _ _,
      branchesTo_branchIf (link_npc s) (not_isNegative_iff _) _⟩⟩

/-- Settles O19: as O18, with the slot skipped where the branch is not taken. -/
theorem likelyLinkBranches : Obligations.LikelyLinkBranches := fun rs imm s hd =>
  ⟨decodeEncode (.bltzall rs imm), decodeEncode (.bgezall rs imm),
    ⟨_, transfer_of_not_inDelay s _ hd, onlyWritesGpr_link_branchLikelyIf s _ _,
      branchLikelyIf_cases (link_npc s) (isNegative_iff _) _⟩,
    ⟨_, transfer_of_not_inDelay s _ hd, onlyWritesGpr_link_branchLikelyIf s _ _,
      branchLikelyIf_cases (link_npc s) (not_isNegative_iff _) _⟩⟩

end Sys2Proof.Machine
end

section
/-! PROOFS. The family 42_integer: every integer instruction completes writing one register (`completesWriting_of_exec`). First the
arithmetic that turns each result the model computes into the number the spec states, then the statements from it. -/

namespace Sys2Proof.Machine

-- The low half of a word (00_scope R10, R14).

/-- The low half is the signed value modulo 2^32 as well as the unsigned one. -/
theorem low32_eq_ofInt (v : Word) : low32 v = BitVec.ofInt 32 v.toInt :=
  (BitVec.signExtend_eq_setWidth_of_le v (by omega)).symm

theorem isCanonical32_iff (v : Word) : isCanonical32 v = true ↔ v = sext64 (low32 v) := beq_iff_eq

-- A signed immediate is added as the integer it stands for (30_encoding R174).

theorem toInt_signImm (imm : BitVec 16) : (signImm imm).toInt = imm.toInt := BitVec.toInt_signExtend_of_le (by omega)

theorem add_signImm (v : Word) (imm : BitVec 16) : v + signImm imm = BitVec.ofInt 64 (v.toInt + imm.toInt) := by
  rw [← toInt_signImm, BitVec.ofInt_add, BitVec.ofInt_toInt, BitVec.ofInt_toInt]

theorem low32_add_low32_signImm (v : Word) (imm : BitVec 16) :
    low32 v + low32 (signImm imm) = BitVec.ofInt 32 (v.toInt + imm.toInt) := by
  rw [low32_eq_ofInt, low32_eq_ofInt, toInt_signImm, BitVec.ofInt_add]

-- Sums and shifts of unsigned values (42_integer R242 to R244).

theorem add_eq_ofNat_mod (a b : Word) : a + b = BitVec.ofNat 64 ((a.toNat + b.toNat) % 2 ^ 64) := by
  rw [← BitVec.toNat_add, BitVec.ofNat_toNat, BitVec.setWidth_eq]

theorem low32_add_low32 (a b : Word) : low32 a + low32 b = BitVec.ofNat 32 (a.toNat + b.toNat) :=
  (BitVec.ofNat_add a.toNat b.toNat).symm

theorem low32_shiftLeft (v : Word) (n : Nat) : low32 v <<< n = BitVec.ofNat 32 (v.toNat % 2 ^ 32 * 2 ^ n) := by
  apply BitVec.eq_of_toNat_eq
  rw [BitVec.toNat_shiftLeft, Nat.shiftLeft_eq, low32, BitVec.toNat_setWidth, BitVec.toNat_ofNat]

-- The 32-bit additions (42_integer R240, R241).

/-- Whatever the operands, the result is canonical. -/
theorem sum32_eq_signExtend (s : State) (canonical : Bool) (a b : Word) :
    ∃ v : Word32, sum32 s canonical a b = v.signExtend 64 := by
  rcases sum32_cases s canonical a b with ⟨-, hsum⟩ | ⟨-, hsum⟩
  · exact ⟨_, hsum⟩
  · exact ⟨_, hsum⟩

theorem sum32_of_canonical (s : State) {canonical : Bool} (h : canonical = true) (a b : Word) :
    sum32 s canonical a b = (low32 a + low32 b).signExtend 64 :=
  if_pos h

theorem exec_addu (rd rs rt : Reg) (s : State) :
    exec (.addu rd rs rt) s = .next (s.complete rd
      (sum32 s (isCanonical32 (s.readGpr rs) && isCanonical32 (s.readGpr rt)) (s.readGpr rs) (s.readGpr rt))) := rfl

theorem exec_addiu (rt rs : Reg) (imm : BitVec 16) (s : State) :
    exec (.addiu rt rs imm) s =
      .next (s.complete rt (sum32 s (isCanonical32 (s.readGpr rs)) (s.readGpr rs) (signImm imm))) := rfl

-- The statements.

/-- Settles O21: the results are those of the model, the immediates zero-extended. -/
theorem bitwiseOperations : Obligations.BitwiseOperations := fun rd rs rt imm _ =>
  ⟨decodeEncode (.and rd rs rt), decodeEncode (.or rd rs rt), decodeEncode (.andi rt rs imm), decodeEncode (.ori rt rs imm),
    completesWriting_of_exec rfl, completesWriting_of_exec rfl, completesWriting_of_exec rfl, completesWriting_of_exec rfl⟩

/-- Settles O22: the addition of words is the unsigned sum, and the signed one, modulo 2^64. -/
theorem doublewordAdditions : Obligations.DoublewordAdditions := by
  intro rd rs rt imm s
  rw [← add_eq_ofNat_mod, ← add_signImm]
  exact ⟨decodeEncode (.daddu rd rs rt), decodeEncode (.daddiu rt rs imm), completesWriting_of_exec rfl,
    completesWriting_of_exec rfl⟩

/-- Settles O23: a shift of the low half is its product with the power of two, modulo 2^32. -/
theorem shiftAndUpper : Obligations.ShiftAndUpper := by
  intro rd rt sa imm s
  rw [← low32_shiftLeft]
  exact ⟨decodeEncode (.sll rd rt sa), decodeEncode (.lui rt imm), completesWriting_of_exec rfl, completesWriting_of_exec rfl⟩

/-- Settles O24: canonical operands pass the model's test, and the sum of low halves is the sum modulo 2^32. -/
theorem wordAdditions : Obligations.WordAdditions := by
  intro rd rs rt imm s hs
  have hrs : isCanonical32 (s.readGpr rs) = true := (isCanonical32_iff _).mpr hs
  refine ⟨decodeEncode (.addu rd rs rt), decodeEncode (.addiu rt rs imm), fun ht => ?_, ?_⟩
  · have hboth : (isCanonical32 (s.readGpr rs) && isCanonical32 (s.readGpr rt)) = true :=
      Bool.and_eq_true_iff.mpr ⟨hrs, (isCanonical32_iff _).mpr ht⟩
    rw [← low32_add_low32, ← sum32_of_canonical s hboth]
    exact completesWriting_of_exec (exec_addu rd rs rt s)
  · rw [← low32_add_low32_signImm, ← sum32_of_canonical s hrs]
    exact completesWriting_of_exec (exec_addiu rt rs imm s)

/-- Settles O25: both cases of `sum32` give a sign-extended 32-bit value, the sum or the free one. -/
theorem wordAdditionsComplete : Obligations.WordAdditionsComplete := by
  intro rd rs rt imm s
  constructor
  · obtain ⟨v, hv⟩ := sum32_eq_signExtend s (isCanonical32 (s.readGpr rs) && isCanonical32 (s.readGpr rt))
      (s.readGpr rs) (s.readGpr rt)
    exact ⟨v, hv ▸ completesWriting_of_exec (exec_addu rd rs rt s)⟩
  · obtain ⟨v, hv⟩ := sum32_eq_signExtend s (isCanonical32 (s.readGpr rs)) (s.readGpr rs) (signImm imm)
    exact ⟨v, hv ▸ completesWriting_of_exec (exec_addiu rt rs imm s)⟩

end Sys2Proof.Machine
end

section
/-! PROOFS. The family 43_load_store: the bytes a load reads, joined in their order, and how a load and a store end, ready or
misaligned, at any width; the statements are these rules at the four widths. -/

namespace Sys2Proof.Machine

-- The bytes of memory, the most significant first (20_memory R136).

/-- In a word of the machine a byte is appended by a shift and an or. -/
theorem shiftLeft_or_setWidth_byte {k : Nat} (v : BitVec k) (b : Byte) :
    v.setWidth 64 <<< 8 ||| b.setWidth 64 = (v ++ b).setWidth 64 := by
  apply BitVec.eq_of_getLsbD_eq
  intro i hi
  simp only [BitVec.getLsbD_or, BitVec.getLsbD_shiftLeft, BitVec.getLsbD_setWidth, BitVec.getLsbD_append, hi, decide_true,
    Bool.true_and]
  by_cases h8 : i < 8
  · simp [h8]
  · simp [h8, show i - 8 < 64 by omega, BitVec.getLsbD_of_ge b i (by omega)]

section
variable (m : Memory) (a : Nat)

theorem Memory.readBE_succ {n k : Nat} {v : BitVec k} (h : m.readBE a n = v.setWidth 64) :
    m.readBE a (n + 1) = (v ++ m.read (a + n)).setWidth 64 := by
  rw [Memory.readBE, h, shiftLeft_or_setWidth_byte]

theorem Memory.readBE_byte : m.readBE a 1 = (m.read a).setWidth 64 := by
  simp [Memory.readBE]

theorem Memory.readBE_half : m.readBE a 2 = (m.read a ++ m.read (a + 1)).setWidth 64 :=
  m.readBE_succ a (m.readBE_byte a)

theorem Memory.readBE_word :
    m.readBE a 4 = (m.read a ++ m.read (a + 1) ++ m.read (a + 2) ++ m.read (a + 3)).setWidth 64 :=
  m.readBE_succ a (m.readBE_succ a (m.readBE_half a))

theorem Memory.readBE_dword :
    m.readBE a 8 = (m.read a ++ m.read (a + 1) ++ m.read (a + 2) ++ m.read (a + 3) ++
      m.read (a + 4) ++ m.read (a + 5) ++ m.read (a + 6) ++ m.read (a + 7)).setWidth 64 :=
  m.readBE_succ a (m.readBE_succ a (m.readBE_succ a (m.readBE_succ a (m.readBE_word a))))

end

-- The extensions of the loads (43_load_store R262 to R268).

theorem setWidth_setWidth_word {k : Nat} (v : BitVec k) (hk : k ≤ 64) : (v.setWidth 64).setWidth k = v := by
  rw [BitVec.setWidth_setWidth_of_le v hk, BitVec.setWidth_eq]

theorem signExtendLoad_setWidth (w : Width) (v : BitVec (8 * w.bytes)) :
    signExtendLoad w (v.setWidth 64) = v.signExtend 64 := by
  cases w with
  | byte | half | word => exact congrArg (BitVec.signExtend 64) (setWidth_setWidth_word v (by decide))
  | dword => exact (BitVec.setWidth_eq v).trans (BitVec.signExtend_eq v).symm

theorem zeroExtendLoad_setWidth (w : Width) (v : BitVec (8 * w.bytes)) :
    zeroExtendLoad w (v.setWidth 64) = v.setWidth 64 := by
  cases w with
  | byte | half | word => exact congrArg (BitVec.setWidth 64) (setWidth_setWidth_word v (by decide))
  | dword => rfl

-- How a load and a store end (43_load_store R260, R261).

section
variable {i : Instr} {s : State} {w : Width} {rt base : Reg} {offset : BitVec 16}

section
variable {v : BitVec (8 * w.bytes)} (hr : LoadReady s (s.effectiveAddress base offset) w)
  (hv : s.mem.readBE (s.dataAddress base offset) w.bytes = v.setWidth 64)
include hr hv

theorem completesWriting_of_signedLoad (hi : exec i s = load w signExtendLoad rt base offset s) :
    CompletesWriting i s rt (v.signExtend 64) :=
  completesWriting_of_exec (by rw [hi, load_of_ready hr, ← signExtendLoad_setWidth, ← hv, State.dataAddress])

theorem completesWriting_of_unsignedLoad (hi : exec i s = load w zeroExtendLoad rt base offset s) :
    CompletesWriting i s rt (v.setWidth 64) :=
  completesWriting_of_exec (by rw [hi, load_of_ready hr, ← zeroExtendLoad_setWidth, ← hv, State.dataAddress])

end

theorem completesStoring_of_store (hwf : s.mem.wf) (hi : exec i s = store w rt base offset s)
    (hr : StoreReady s (s.effectiveAddress base offset) w) :
    CompletesStoring i s (s.dataAddress base offset) w.bytes (s.readGpr rt) := by
  refine ⟨_, hi.trans (store_of_ready hr), fun k hk => ?_, s.mem.read_writeBE_of_outside _ _ _, fun _ => rfl,
    ⟨rfl, rfl, rfl, rfl, rfl⟩, ⟨rfl, rfl, rfl, rfl⟩, ⟨rfl, rfl, rfl⟩⟩
  exact (s.mem.read_writeBE _ _ _ k hk hwf).trans BitVec.setWidth_ushiftRight_eq_extractLsb

theorem addressErrorLoad_of_misaligned {ext : Width → Word → Word} (hi : exec i s = load w ext rt base offset s)
    (hre : statusRe s.cp0.status = false) (hal : (s.effectiveAddress base offset).toNat % w.bytes ≠ 0) :
    ∃ t, exec i s = .next t ∧ EntersException s t (.addressErrorLoad (s.effectiveAddress base offset)) := by
  refine ⟨_, ?_, entersException_takeException s _⟩
  rw [hi, load, (loadAccess_eq_raise_iff _ _ _ _).mpr ⟨hre, hal, rfl⟩, Access.finish]

theorem addressErrorStore_of_misaligned (hi : exec i s = store w rt base offset s)
    (hre : statusRe s.cp0.status = false) (hal : (s.effectiveAddress base offset).toNat % w.bytes ≠ 0) :
    ∃ t, exec i s = .next t ∧ EntersException s t (.addressErrorStore (s.effectiveAddress base offset)) := by
  refine ⟨_, ?_, entersException_takeException s _⟩
  rw [hi, store, (storeAccess_eq_raise_iff _ _ _ _ _).mpr ⟨hre, hal, rfl⟩, Access.finish]

end

-- The statements.

/-- Settles O27: the byte read, extended; base and signed offset are added as integers. -/
theorem loadByte : Obligations.LoadByte := fun rt base offset _ =>
  ⟨decodeEncode (.lb rt base offset), decodeEncode (.lbu rt base offset), add_signImm _ offset, fun hr =>
    ⟨completesWriting_of_signedLoad (w := .byte) hr (Memory.readBE_byte _ _) rfl,
      completesWriting_of_unsignedLoad (w := .byte) hr (Memory.readBE_byte _ _) rfl⟩⟩

/-- Settles O28: the two bytes read, extended; both loads check the address before they read. -/
theorem loadHalf : Obligations.LoadHalf := by
  rintro rt base offset s _ rfl
  refine ⟨decodeEncode (.lh rt base offset), decodeEncode (.lhu rt base offset), fun hr => ⟨?_, ?_⟩, fun hre hal => ?_⟩
  · exact completesWriting_of_signedLoad (w := .half) hr (Memory.readBE_half _ _) rfl
  · exact completesWriting_of_unsignedLoad (w := .half) hr (Memory.readBE_half _ _) rfl
  · exact List.forall_mem_cons.mpr ⟨addressErrorLoad_of_misaligned rfl hre hal,
      List.forall_mem_singleton.mpr (addressErrorLoad_of_misaligned rfl hre hal)⟩

/-- Settles O29: as O28, with four bytes. -/
theorem loadWord : Obligations.LoadWord := by
  rintro rt base offset s _ rfl
  refine ⟨decodeEncode (.lw rt base offset), decodeEncode (.lwu rt base offset), fun hr => ⟨?_, ?_⟩, fun hre hal => ?_⟩
  · exact completesWriting_of_signedLoad (w := .word) hr (Memory.readBE_word _ _) rfl
  · exact completesWriting_of_unsignedLoad (w := .word) hr (Memory.readBE_word _ _) rfl
  · exact List.forall_mem_cons.mpr ⟨addressErrorLoad_of_misaligned rfl hre hal,
      List.forall_mem_singleton.mpr (addressErrorLoad_of_misaligned rfl hre hal)⟩

/-- Settles O30: the eight bytes read fill the register, so that nothing is extended. -/
theorem loadDoubleword : Obligations.LoadDoubleword := by
  rintro rt base offset s _ rfl
  refine ⟨decodeEncode (.ld rt base offset), fun hr => ?_, addressErrorLoad_of_misaligned (w := .dword) rfl⟩
  rw [← BitVec.setWidth_eq (s.mem.read _ ++ _ ++ _ ++ _ ++ _ ++ _ ++ _ ++ _)]
  exact completesWriting_of_unsignedLoad hr (Memory.readBE_dword _ _) rfl

/-- Settles O31: one rule for a store that is ready and one for a misaligned store, at each width. -/
theorem stores : Obligations.Stores := fun rt base offset _ hwf =>
  ⟨decodeEncode (.sb rt base offset), decodeEncode (.sh rt base offset), decodeEncode (.sw rt base offset),
    decodeEncode (.sd rt base offset), completesStoring_of_store hwf rfl, completesStoring_of_store hwf rfl,
    completesStoring_of_store hwf rfl, completesStoring_of_store hwf rfl, addressErrorStore_of_misaligned (w := .half) rfl,
    addressErrorStore_of_misaligned (w := .word) rfl, addressErrorStore_of_misaligned (w := .dword) rfl⟩

end Sys2Proof.Machine
end

section
/-! PROOFS. The family 44_cp1_class: every instruction of the class is its gate, which looks at cu1 alone. First the two outcomes of
the gate and that the class is the gate, then the statement from these rules. -/

namespace Sys2Proof.Machine

-- The gate Status.cu1 (44_cp1_class R280, R281).

theorem cp1Gate_of_cu1_clear {s : State} (hcu1 : statusCu1 s.cp0.status = false) :
    cp1Gate s = .next (s.takeException (.coprocessorUnusable 1)) :=
  if_neg (by simp [hcu1])

theorem cp1Gate_of_cu1_set {s : State} (hcu1 : statusCu1 s.cp0.status = true) : cp1Gate s = .refused .cp1NotModelled :=
  if_pos hcu1

/-- No operand of an instruction of the class reaches its outcome (44_cp1_class R282 to R286). -/
theorem exec_of_isCp1Class {i : Instr} (hi : isCp1Class i = true) (s : State) : exec i s = cp1Gate s := by
  cases i with
  | cop1 _ | lwc1 _ _ _ | ldc1 _ _ _ | swc1 _ _ _ | sdc1 _ _ _ => rfl
  | _ => exact nomatch hi

/-- With cu1 = 0 an instruction of the class is the entry of Coprocessor Unusable for coprocessor 1. -/
theorem entersException_of_isCp1Class {i : Instr} (hi : isCp1Class i = true) {s : State} (hcu1 : statusCu1 s.cp0.status = false) :
    ∃ t, exec i s = .next t ∧ EntersException s t (.coprocessorUnusable 1) :=
  ⟨_, (exec_of_isCp1Class hi s).trans (cp1Gate_of_cu1_clear hcu1), entersException_takeException s _⟩

/-- With cu1 = 1 it is refused. -/
theorem refused_of_isCp1Class {i : Instr} (hi : isCp1Class i = true) {s : State} (hcu1 : statusCu1 s.cp0.status = true) :
    exec i s = .refused .cp1NotModelled :=
  (exec_of_isCp1Class hi s).trans (cp1Gate_of_cu1_set hcu1)

/-- Settles O46: the five words are encodings, and their instructions are of the class. -/
theorem cp1Class : Obligations.Cp1Class := by
  intro cofun ft base offset s
  refine ⟨decodeEncode (.cop1 cofun), decodeEncode (.lwc1 ft base offset), decodeEncode (.ldc1 ft base offset),
    decodeEncode (.swc1 ft base offset), decodeEncode (.sdc1 ft base offset), fun i hmem => ?_⟩
  have hi : isCp1Class i = true := List.all_eq_true.mp rfl i hmem
  exact ⟨entersException_of_isCp1Class hi, refused_of_isCp1Class hi⟩

end Sys2Proof.Machine
end

section
/-! PROOFS. The family 60_exceptions: what a step is, from how its clauses before execution end; when an interrupt is taken and what
its entry leaves; and which steps change the exception code and the mode. First the equations of the step, then the rules of
Status and Cause the statements need, each beside the statement it serves. -/

namespace Sys2Proof.Machine

-- The step, from how its clauses before execution end (60_exceptions R300).

theorem mapNext_mapNext (f g : State → State) (o : Host.Outcome State Fault Refusal) :
    mapNext g (mapNext f o) = mapNext (fun t => g (f t)) o := by
  cases o <;> rfl

/-- An instruction executed is its meaning on the sampled state, the update of Random, and the ticks. -/
theorem step_of_executes {s : State} {i : Instr} (h : Executes s i) :
    step s = mapNext (fun t => t.updateRandom.betweenSteps (Config.tickSchedule s.time)) (exec i s.sampled) := by
  have hfront : front s.sampled = .execute i := h
  have hprocess : process s.sampled = mapNext State.updateRandom (exec i s.sampled) := by rw [process, hfront]
  exact (congrArg (mapNext _) hprocess).trans (mapNext_mapNext _ _ _)

/-- An interrupt taken is its entry on the sampled state, and the ticks. -/
theorem step_of_takesInterrupt {s : State} (h : TakesInterrupt s) :
    step s = .next ((s.sampled.takeException .interrupt).betweenSteps (Config.tickSchedule s.time)) := by
  have hfront : front s.sampled = .interrupt := h
  have hprocess : process s.sampled = .next (s.sampled.takeException .interrupt) := by rw [process, hfront]
  exact congrArg (mapNext _) hprocess

-- The mode (60_exceptions R324 to R326).

/-- Outside kernel mode the first clause refuses. -/
theorem front_of_not_kernel {s : State} (h : effectiveMode s.cp0.status ≠ .kernel) : front s = .refuse .nonKernelMode :=
  if_pos h

/-- Settles O8: the mode is R324's case distinction, and the clauses before execution begin with its test. -/
theorem nonKernelRefused : Obligations.NonKernelRefused :=
  ⟨fun _ => rfl, fun s h => step_of_front_refuse (front_of_not_kernel (s := s.sampled) h)⟩

-- The fetch (20_memory R138, R140).

/-- A fetch that completes reads the four bytes at the physical pc, the most significant first. -/
theorem fetch_eq_ok {s : State} {p : Nat} (hp : p = (physicalOf s.pc).toNat) (hre : statusRe s.cp0.status = false)
    (halign : s.pc.toNat % 4 = 0) (htrans : translateAddress s.pc = some (physicalOf s.pc))
    (hphys : coversAll s.physMem p 4 = true) (htext : coversAll s.programText p 4 = true) :
    fetch s = .ok (s.mem.read p ++ s.mem.read (p + 1) ++ s.mem.read (p + 2) ++ s.mem.read (p + 3)) := by
  subst hp
  have hread := (memRead_eq_ok_iff s s.pc .word _).mpr ⟨hre, halign, htrans, hphys, rfl⟩
  rw [fetch, hread]
  dsimp only
  rw [if_pos htext, Width.bytes, Memory.readBE_word, low32, setWidth_setWidth_word _ (by omega)]

theorem decode_of_decodeBytes {b₀ b₁ b₂ b₃ : Byte} {i : Instr} {rest : List Byte}
    (h : decodeBytes [b₀, b₁, b₂, b₃] = .ok (i, rest)) : decode (b₀ ++ b₁ ++ b₂ ++ b₃) = .ok i := by
  rw [decodeBytes] at h
  cases hd : decode (b₀ ++ b₁ ++ b₂ ++ b₃) with
  | ok j =>
    rw [hd] at h
    injection h with h
    rw [(Prod.mk.inj h).1]
  | error e =>
    rw [hd] at h
    exact nomatch h

/-- A fetched word that decodes is executed. -/
theorem front_of_decode_ok {s : State} {w : Word32} {i : Instr} (hmode : effectiveMode s.cp0.status = .kernel)
    (hint : interruptTaken s.cp0.status s.cp0.cause = false) (hfetch : fetch s = .ok w) (hd : decode w = .ok i) :
    front s = .execute i := by
  rw [front, hmode, hint, hfetch]
  dsimp only
  rw [hd]
  rfl

/-- Settles O6: the bytes fetched are those decoded, and sampling the external lines does not reach them. -/
theorem stepRunsDecodedInstruction : Obligations.StepRunsDecodedInstruction := by
  intro s i p hmode hint hre halign htrans hp hphys htext hdecode
  have hfetch := (fetch_sampled s).trans (fetch_eq_ok hp hre halign htrans hphys htext)
  have hexec : Executes s i := front_of_decode_ok (s := s.sampled) hmode hint hfetch (decode_of_decodeBytes hdecode)
  exact ⟨hexec, step_of_executes hexec⟩

-- Interrupts (60_exceptions R306).

theorem interruptTaken_iff (st cause : Word32) :
    interruptTaken st cause = true ↔
      statusIe st = true ∧ statusExl st = false ∧ statusErl st = false ∧ statusIm st &&& causeIp cause ≠ 0 := by
  simp [interruptTaken, and_assoc]

theorem front_eq_interrupt_iff (s : State) :
    front s = .interrupt ↔ effectiveMode s.cp0.status = .kernel ∧ interruptTaken s.cp0.status s.cp0.cause = true := by
  refine ⟨front_interrupt s, fun ⟨hmode, hint⟩ => ?_⟩
  rw [front, hmode, hint]
  rfl

/-- Settles O10: the mode check and the interrupt check, and the step they lead to. -/
theorem interruptEntry : Obligations.InterruptEntry := fun s =>
  ⟨(front_eq_interrupt_iff s.sampled).trans (and_congr_right fun _ => interruptTaken_iff _ _),
    fun h => ⟨_, entersException_takeException s.sampled .interrupt, step_of_takesInterrupt h⟩⟩

-- The entry of an exception (60_exceptions R304, R312 to R317).

/-- Settles O11: every clause is that of the model's one entry. -/
theorem exceptionEntry : Obligations.ExceptionEntry :=
  ⟨entersException_takeException, rfl, fun _ => rfl, fun _ => rfl, fun _ => rfl⟩

-- The exception code (60_exceptions R305; 10_state R76).

theorem Exc.code_mem (e : Exc) : e.code ∈ [0#5, 4#5, 5#5, 11#5] := by
  cases e with
  | interrupt | addressErrorLoad _ | addressErrorStore _ | coprocessorUnusable _ => simp [Exc.code]

theorem causeExcCode_takeException (s : State) (e : Exc) : causeExcCode (s.takeException e).cp0.cause = e.code := by
  rw [State.takeException_cp0_cause, causeExcCode_withCe, causeExcCode_withExcCode]

/-- A field that the mask withholds is kept. -/
theorem extract_maskedWrite_of_withheld {n : Nat} (old new : BitVec n) {mask : BitVec n} {lo len : Nat}
    (h : mask.extractLsb' lo len = 0) : (maskedWrite old new mask).extractLsb' lo len = old.extractLsb' lo len := by
  apply BitVec.eq_of_getLsbD_eq
  intro i hi
  have hbit : (mask.extractLsb' lo len).getLsbD i = false := by rw [h]; simp
  rw [BitVec.getLsbD_extractLsb', decide_eq_true hi, Bool.true_and] at hbit
  rw [BitVec.getLsbD_extractLsb', BitVec.getLsbD_extractLsb', getLsbD_maskedWrite_of_withheld _ _ hbit]

/-- A move reaches ip0, ip1 and, through Compare, ip7 (10_state R54, R80). -/
theorem Cp0.write_causeExcCode (c : Cp0) (p : Params) (n : Reg) (v : Word) :
    causeExcCode (c.write p n v).cause = causeExcCode c.cause := by
  rw [Cp0.write_cause]
  split
  · exact causeExcCode_withIp7 _ _
  · split
    · exact extract_maskedWrite_of_withheld _ _ (by decide)
    · rfl

/-- An instruction writes the code by an exception's entry only. -/
theorem Effect.causeExcCode_cases {i : Instr} {s t : State} (he : Effect i s t) :
    causeExcCode t.cp0.cause = causeExcCode s.cp0.cause ∨ ∃ e : Exc, causeExcCode t.cp0.cause = e.code := by
  rcases he.cp0_cases with hc | ⟨rd, v, -, hc⟩ | ⟨e, hc⟩ | hc
  · exact .inl (by rw [hc])
  · exact .inl (by rw [hc, Cp0.write_causeExcCode])
  · exact .inr ⟨e, by rw [hc, causeExcCode_takeException]⟩
  · exact .inl (by rw [hc, returnFromException_cp0])

theorem step_causeExcCode_cases {s t : State} (h : step s = .next t) :
    causeExcCode t.cp0.cause = causeExcCode s.cp0.cause ∨ ∃ e : Exc, causeExcCode t.cp0.cause = e.code := by
  have hsampled : causeExcCode s.sampled.cp0.cause = causeExcCode s.cp0.cause := causeExcCode_withLines _ _
  obtain ⟨u, rfl, hu⟩ := step_cases s t h
  have hticks : causeExcCode (u.betweenSteps (Config.tickSchedule s.time)).cp0.cause = causeExcCode u.cp0.cause :=
    causeExcCode_withIp7 _ _
  rw [hticks, ← hsampled]
  rcases hu with ⟨-, rfl⟩ | ⟨e, -, rfl⟩ | ⟨i, v, -, he, rfl⟩
  · exact .inr ⟨_, causeExcCode_takeException _ _⟩
  · exact .inr ⟨e, causeExcCode_takeException _ e⟩
  · exact he.causeExcCode_cases

/-- Settles O57: a step that writes the code writes the code of one of the model's exceptions. -/
theorem exceptionCodes : Obligations.ExceptionCodes := fun _ _ h =>
  (step_causeExcCode_cases h).imp_right fun ⟨e, hcode⟩ => hcode ▸ e.code_mem

-- Leaving kernel mode (60_exceptions R325).

/-- With exl = 1 the mode is kernel (60_exceptions R324). -/
theorem effectiveMode_of_exl {st : Word32} (h : statusExl st = true) : effectiveMode st = .kernel := by
  simp [effectiveMode, h]

theorem effectiveMode_takeException (s : State) (e : Exc) : effectiveMode (s.takeException e).cp0.status = .kernel :=
  effectiveMode_of_exl (statusExl_withExl _ _)

theorem cp0Reg_eq_status_iff : ∀ n : Reg, cp0Reg n = .status ↔ n = 12 := by decide

/-- A move to another number than 12 leaves Status alone. -/
theorem Cp0.write_status_of_ne (c : Cp0) (p : Params) {n : Reg} (v : Word) (h : n ≠ 12) : (c.write p n v).status = c.status :=
  (c.write_status p n v).trans (if_neg (mt (cp0Reg_eq_status_iff n).mp h))

/-- An instruction run in kernel mode stays there, unless it is ERET or a move to Status. -/
theorem Effect.kernel_or {i : Instr} {s t : State} (he : Effect i s t) (hmode : effectiveMode s.cp0.status = .kernel) :
    effectiveMode t.cp0.status = .kernel ∨ i = .eret ∨ cp0Destination i = some 12 := by
  cases he with
  | wroteGpr r v => exact .inl (by rw [State.complete_cp0, hmode])
  | wroteCp0 rd v hi =>
    by_cases hrd : rd = 12
    · exact .inr (.inr (hrd ▸ hi))
    · exact .inl ((congrArg effectiveMode (Cp0.write_status_of_ne _ _ v hrd)).trans hmode)
  | wroteTlb hr hi => exact .inl hmode
  | returned hi hd => exact .inr (.inl hi)
  | branched r v target hi hne hd => exact .inl (by rw [State.branchTo_cp0, State.writeGpr_cp0, hmode])
  | skipped r v hi hne hd => exact .inl (by rw [State.skipSlot_cp0, State.writeGpr_cp0, hmode])
  | stored w vaddr v hr => exact .inl hmode
  | misaligned e vaddr hv => exact .inl (effectiveMode_takeException s e)
  | unusable hi hc => exact .inl (effectiveMode_takeException s _)

/-- Settles O58: an entry sets exl, and neither the update of Random nor the ticks write Status. -/
theorem kernelModeLeft : Obligations.KernelModeLeft := by
  intro s t h hleft
  obtain ⟨u, rfl, ⟨-, rfl⟩ | ⟨e, -, rfl⟩ | ⟨i, v, hx, he, rfl⟩⟩ := step_cases s t h
  · exact absurd (effectiveMode_takeException s.sampled .interrupt) hleft
  · exact absurd (effectiveMode_takeException s.sampled e) hleft
  · obtain ⟨hmode, -, -⟩ := front_execute _ _ hx
    rcases he.kernel_or hmode with hkernel | rfl | hi
    · exact absurd hkernel hleft
    · exact .inl hx
    · exact .inr (movesTo_of_cp0Destination hx hi)

-- Software interrupts (60_exceptions R309): the requests ip0 and ip1, bits 8 and 9 of Cause, against the same bits of Status.

section
variable {k : Nat} (hk : k = 8 ∨ k = 9)
include hk

/-- A move to Cause writes the requests (10_state R80). -/
theorem getLsbD_request_write (c : Cp0) (p : Params) (x : Word) :
    (c.write p 13 (sext64 (low32 x))).cause.getLsbD k = x.getLsbD k := by
  have hwrite : (c.write p 13 (sext64 (low32 x))).cause = maskedWrite c.cause (low32 x) wmaskCause := by
    rw [Cp0.write_cause, low32_sext64]
    rfl
  rw [hwrite, getLsbD_maskedWrite]
  rcases hk with rfl | rfl <;> simp [wmaskCause, low32]

/-- The external lines are other bits of Cause. -/
theorem getLsbD_request_sampled (s : State) : s.sampled.cp0.cause.getLsbD k = s.cp0.cause.getLsbD k :=
  getLsbD_insertField_of_out _ 10 _ (by omega) k (by omega)

/-- So is the timer's. -/
theorem getLsbD_request_betweenSteps (s : State) (n : Nat) :
    (s.betweenSteps n).cp0.cause.getLsbD k = s.cp0.cause.getLsbD k :=
  getLsbD_insertField_of_out _ 15 _ (by omega) k (by omega)

/-- A request and its mask bit meet in the interrupt condition. -/
theorem statusIm_and_causeIp_ne_zero {st cause : Word32} (him : st.getLsbD k = true) (hip : cause.getLsbD k = true) :
    statusIm st &&& causeIp cause ≠ 0 := by
  intro hzero
  have hbit : (statusIm st &&& causeIp cause).getLsbD (k - 8) = true := by
    simp [statusIm, causeIp, show k - 8 < 8 by omega, show 8 + (k - 8) = k by omega, him, hip]
  rw [hzero] at hbit
  simp at hbit

/-- An enabled request is taken, whatever the lines are: it outlives their sampling. -/
theorem takesInterrupt_of_request {s : State} (hmode : effectiveMode s.cp0.status = .kernel) (hie : statusIe s.cp0.status = true)
    (hexl : statusExl s.cp0.status = false) (herl : statusErl s.cp0.status = false) (him : s.cp0.status.getLsbD k = true)
    (hip : s.cp0.cause.getLsbD k = true) : TakesInterrupt s := by
  have hrequest : s.sampled.cp0.cause.getLsbD k = true := (getLsbD_request_sampled hk s).trans hip
  have hint : interruptTaken s.sampled.cp0.status s.sampled.cp0.cause = true :=
    (interruptTaken_iff _ _).mpr ⟨hie, hexl, herl, statusIm_and_causeIp_ne_zero hk him hrequest⟩
  exact (front_eq_interrupt_iff s.sampled).mpr ⟨hmode, hint⟩

/-- MTC0 to Cause completes with the request as given, however many ticks follow; Status is left alone, and control is at the next
instruction, outside a delay slot. -/
theorem step_mtc0_cause {s : State} {rt : Reg} (hx : Executes s (.mtc0 rt 13)) :
    ∃ t, step s = .next t ∧ t.cp0.status = s.cp0.status ∧ t.cp0.cause.getLsbD k = (s.readGpr rt).getLsbD k ∧
      t.pc = s.npc ∧ t.inDelay = false :=
  ⟨_, step_of_executes hx, rfl,
    (getLsbD_request_betweenSteps hk _ _).trans (getLsbD_request_write hk s.sampled.cp0 s.params (s.readGpr rt)), rfl, rfl⟩

end

/-- What the step that takes an interrupt leaves to the handler: it came from exl = 0, so EPC and Cause.bd are written. -/
theorem step_interrupt_entry {s : State} (h : TakesInterrupt s) :
    ∃ t, step s = .next t ∧ t.cp0.epc = s.resumeAddress ∧ causeBd t.cp0.cause = s.inDelay ∧ causeExcCode t.cp0.cause = 0 ∧
      statusExl t.cp0.status = true := by
  obtain ⟨-, hint⟩ := front_interrupt _ h
  obtain ⟨-, hexl, -, -⟩ := (interruptTaken_iff _ _).mp hint
  have hentry := takeException_epc_bd s.sampled .interrupt
  rw [hexl] at hentry
  obtain ⟨hepc, hbd⟩ := hentry
  refine ⟨_, step_of_takesInterrupt h, hepc, ?_, ?_, statusExl_withExl _ _⟩
  · exact (getLsbD_insertField_of_out _ 15 _ (by omega) 31 (by omega)).trans hbd
  · exact (causeExcCode_withIp7 _ _).trans (causeExcCode_takeException _ _)

/-- Settles O59: the move leaves an enabled request in a state that is still in kernel mode, and the next step is its entry. -/
theorem softwareInterrupt : Obligations.SoftwareInterrupt := by
  intro s rt k hx hk hie hexl herl him hrt
  obtain ⟨hmode, -, -⟩ := front_execute _ _ hx
  rw [State.sampled_cp0] at hmode
  obtain ⟨t, ht, hstatus, hcause, hpc, hdelay⟩ := step_mtc0_cause hk hx
  rw [← hstatus] at hmode hie hexl herl him
  have hint : TakesInterrupt t := takesInterrupt_of_request hk hmode hie hexl herl him (hcause.trans hrt)
  obtain ⟨u, hu, hepc, hbd, hcode, hlevel⟩ := step_interrupt_entry hint
  have hresume : t.resumeAddress = s.npc := by rw [State.resumeAddress, hdelay, hpc]; rfl
  exact ⟨t, u, ht, hint, hu, hepc.trans hresume, hbd.trans hdelay, hcode, hlevel⟩

end Sys2Proof.Machine
end
